-- ==== Sys2Proof/Word.lean ====
section
/-! DEFINITION. The plain data every other file is written over: a byte of the body link, a channel number, and a
bank of eight like things (the eight channels, the eight sources). -/

namespace Sys2Proof

/-- One byte of the body link. -/
abbrev Byte := BitVec 8

/-- A channel number, 0 to 7 (00_scope.md, "The eight channels"). -/
abbrev Channel := Fin 8

/-- Eight like things, one per channel or one per source. -/
structure Octet (α : Type) where
  c0 : α
  c1 : α
  c2 : α
  c3 : α
  c4 : α
  c5 : α
  c6 : α
  c7 : α
  deriving DecidableEq, Repr, Inhabited

namespace Octet
variable {α β : Type}

/-- The entry of one index. -/
def get (o : Octet α) (i : Fin 8) : α :=
  match i with
  | 0 => o.c0
  | 1 => o.c1
  | 2 => o.c2
  | 3 => o.c3
  | 4 => o.c4
  | 5 => o.c5
  | 6 => o.c6
  | 7 => o.c7

/-- The bank with the entry of one index replaced. -/
def set (o : Octet α) (i : Fin 8) (x : α) : Octet α :=
  match i with
  | 0 => { o with c0 := x }
  | 1 => { o with c1 := x }
  | 2 => { o with c2 := x }
  | 3 => { o with c3 := x }
  | 4 => { o with c4 := x }
  | 5 => { o with c5 := x }
  | 6 => { o with c6 := x }
  | 7 => { o with c7 := x }

/-- The bank with the entry of one index passed through `f`. -/
def modify (o : Octet α) (i : Fin 8) (f : α → α) : Octet α := o.set i (f (o.get i))

/-- The bank whose entry of index `i` is `f i`. -/
def ofFn (f : Fin 8 → α) : Octet α := ⟨f 0, f 1, f 2, f 3, f 4, f 5, f 6, f 7⟩

/-- Every entry passed through `f`. -/
def map (f : α → β) (o : Octet α) : Octet β := ofFn fun i => f (o.get i)

/-- The eight entries in ascending index. -/
def toList (o : Octet α) : List α := [o.c0, o.c1, o.c2, o.c3, o.c4, o.c5, o.c6, o.c7]

@[simp] theorem get_set_same (o : Octet α) (i : Fin 8) (x : α) : (o.set i x).get i = x := by
  match i with
  | 0 | 1 | 2 | 3 | 4 | 5 | 6 | 7 => rfl

theorem get_set_ne (o : Octet α) {i j : Fin 8} (x : α) (h : j ≠ i) : (o.set i x).get j = o.get j := by
  match i, j with
  | 0, 1 | 0, 2 | 0, 3 | 0, 4 | 0, 5 | 0, 6 | 0, 7 => rfl
  | 1, 0 | 1, 2 | 1, 3 | 1, 4 | 1, 5 | 1, 6 | 1, 7 => rfl
  | 2, 0 | 2, 1 | 2, 3 | 2, 4 | 2, 5 | 2, 6 | 2, 7 => rfl
  | 3, 0 | 3, 1 | 3, 2 | 3, 4 | 3, 5 | 3, 6 | 3, 7 => rfl
  | 4, 0 | 4, 1 | 4, 2 | 4, 3 | 4, 5 | 4, 6 | 4, 7 => rfl
  | 5, 0 | 5, 1 | 5, 2 | 5, 3 | 5, 4 | 5, 6 | 5, 7 => rfl
  | 6, 0 | 6, 1 | 6, 2 | 6, 3 | 6, 4 | 6, 5 | 6, 7 => rfl
  | 7, 0 | 7, 1 | 7, 2 | 7, 3 | 7, 4 | 7, 5 | 7, 6 => rfl
  | 0, 0 | 1, 1 | 2, 2 | 3, 3 | 4, 4 | 5, 5 | 6, 6 | 7, 7 => exact absurd rfl h

theorem get_set (o : Octet α) (i j : Fin 8) (x : α) : (o.set i x).get j = if j = i then x else o.get j := by
  by_cases h : j = i
  · subst h; simp
  · simp [h, get_set_ne o x h]

@[simp] theorem get_modify_same (o : Octet α) (i : Fin 8) (f : α → α) : (o.modify i f).get i = f (o.get i) := by
  simp [modify]

theorem get_modify_ne (o : Octet α) {i j : Fin 8} (f : α → α) (h : j ≠ i) : (o.modify i f).get j = o.get j :=
  get_set_ne o _ h

theorem get_modify (o : Octet α) (i j : Fin 8) (f : α → α) :
    (o.modify i f).get j = if j = i then f (o.get i) else o.get j := get_set o i j _

@[simp] theorem get_ofFn (f : Fin 8 → α) (i : Fin 8) : (ofFn f).get i = f i := by
  match i with
  | 0 | 1 | 2 | 3 | 4 | 5 | 6 | 7 => rfl

@[simp] theorem get_map (f : α → β) (o : Octet α) (i : Fin 8) : (o.map f).get i = f (o.get i) := by
  simp [map]

/-- Two banks whose entries agree index by index are equal. -/
theorem ext_get {o p : Octet α} (h : ∀ i, o.get i = p.get i) : o = p := by
  have h0 := h 0; have h1 := h 1; have h2 := h 2; have h3 := h 3
  have h4 := h 4; have h5 := h 5; have h6 := h 6; have h7 := h 7
  cases o; cases p
  simp_all [get]

end Octet

/-- A timer that counts down: `none` while stopped, otherwise the time it has left in its own unit. -/
abbrev Timer := Option Nat

end Sys2Proof
end

