-- ==== Sys2Proof/Config.lean ====
section
/-! DEFINITION. What tunes the part: the enumerations the manual names, the settings of 10_stored_settings_and_start_up.md
(R154, R155), the zone records that are stored with them (R103), the content of the two sections of the non-volatile
image (R157), and the free values. A free value is an `opaque` constant: nothing can be proved about what it is. -/

namespace Sys2Proof

/-- What a channel moves (00_scope.md, "The eight channels"). -/
inductive Kind where
  | window | vent | roofPanel | roofShade
  deriving DecidableEq, Repr, Inhabited

/-- How the verdict unit aggregates its window (R93 to R95). -/
inductive AggMode where
  | run | count | rise
  deriving DecidableEq, Repr, Inhabited

/-- The party a request names (00_scope.md, "Sources"; R132). -/
inductive Source where
  | driver | codriver | rearLeft | rearRight | roofConsole | remote | body | service
  deriving DecidableEq, Repr, Inhabited

/-- One entry of the permission table (R133). -/
inductive Perm where
  | deny | allow | refer
  deriving DecidableEq, Repr, Inhabited

/-- A direction of motion: closing lowers the position, opening raises it. -/
inductive Dir where
  | closing | opening
  deriving DecidableEq, Repr, Inhabited

/-- How a move was asked for (R18). -/
inductive MoveMode where
  | manual | express | target
  deriving DecidableEq, Repr, Inhabited

/-- Whether a zone has a usable figure (R103). -/
inductive ZoneState where
  | empty | learned | stale
  deriving DecidableEq, Repr, Inhabited

/-- The weight of the transmitter (R152, R155). -/
inductive Weight where
  | strict | four | eight | sixteen
  deriving DecidableEq, Repr, Inhabited

/-- One zone record of a channel's reference profile (R103). -/
structure ZoneRecord where
  state    : ZoneState
  baseline : Nat
  spread   : Nat
  stamp    : BitVec 16
  tz       : Int
  deriving DecidableEq, Repr, Inhabited

/-- The 64 zone records of one channel. -/
abbrev Zones := Vector ZoneRecord 64

/-- The per-channel items 0x00 to 0x2B of R154, in code order. -/
structure ChannelSettings where
  kind         : Kind
  travel       : Nat
  sealBand     : Nat
  slowBand     : Nat
  ci           : Nat
  cp           : Nat
  filterShift  : Nat
  bDefault     : Nat
  bFloor       : Nat
  bCeil        : Nat
  tBase        : Nat
  tCeil        : Nat
  mEmpty       : Nat
  mStale       : Nat
  mHeld        : Nat
  kt           : Nat
  winLen       : Nat
  mode         : AggMode
  k            : Nat
  blank        : Nat
  stallMs      : Nat
  startStallMs : Nat
  revDist      : Nat
  revMinPos    : Nat
  openTol      : Nat
  nHeld        : Nat
  heldS        : Nat
  holdMs       : Nat
  iStart       : Nat
  iRun         : Nat
  creditMax    : Nat
  creditStart  : Nat
  recover      : Nat
  dStart       : Nat
  dRun         : Nat
  dSeal        : Nat
  dInch        : Nat
  ramp         : Nat
  learnShift   : Nat
  learnStepMax : Nat
  sInit        : Nat
  sMax         : Nat
  ageRuns      : Nat
  ageTemp      : Nat
  deriving DecidableEq, Repr, Inhabited

/-- The global items 0x40 to 0x4E of R154, in code order. `urgentKinds` holds the six report classes of R151 at the
weights of R154. -/
structure GlobalSettings where
  budget      : Nat
  uSag        : Nat
  uCut        : Nat
  uStep       : Nat
  stepMs      : Nat
  aStep       : Nat
  kd          : Nat
  dMax        : Nat
  dRough      : Nat
  dDecay      : Nat
  kv          : Nat
  vMax        : Nat
  wrr         : Weight
  urgentKinds : BitVec 6
  lockAtStart : Bool
  deriving DecidableEq, Repr, Inhabited

/-- The content of the SETTINGS section of the image (R157): every item, the permission table (by source, then by
channel) and the privileged set, and the zone records and run counters. -/
structure SettingsContent where
  globals     : GlobalSettings
  channels    : Octet ChannelSettings
  perms       : Octet (Octet Perm)
  priv        : Octet Bool
  zones       : Octet Zones
  runCounters : Octet (BitVec 16)
  deriving DecidableEq, Repr, Inhabited

/-- The content of the PARK section of the image (R157): the positions, each in 16 bits of the section's 20 bytes, and the
park mark. -/
structure ParkContent where
  positions : Octet (BitVec 16)
  mark      : Bool
  deriving DecidableEq, Repr, Inhabited

/-- FREE VALUE (log entry 3): what the content of the SETTINGS section reads as after a write that left some of its bytes not as the snapshot has them. -/
opaque Config.misreadSettings : Nat → SettingsContent

/-- FREE VALUE (log entry 3): what the content of the PARK section reads as after a write that left some of its bytes not as the snapshot has them. -/
opaque Config.misreadPark : Nat → ParkContent

end Sys2Proof
end

