-- ==== Sys2Proof/Syntax.lean ====
section
/-! DEFINITION. The commands of the part: one constructor per row of spec/opcode_table.json. A request row carries the
payload of its frame as received (R146), an ASK row the five bytes beside its topic, a sampled row the sample, and a
per-channel row its channel. -/

namespace Sys2Proof

/-- The commands the part takes, in the order of spec/opcode_table.json. -/
inductive Instr where
  /-- R2: the sampled Hall pair of channel `c` is now line A `a`, line B `b`. -/
  | hallTransition (c : Channel) (a b : Bool)
  /-- R3: 65 535 µs have passed since the last edge of channel `c`. -/
  | longPastMarker (c : Channel)
  /-- R134: a checked MOVE frame with this payload. -/
  | move (payload : List Byte)
  /-- R136: a checked HALT frame with this payload. -/
  | halt (payload : List Byte)
  /-- R81: a checked VEHICLE frame with this payload. -/
  | vehicle (payload : List Byte)
  /-- R147: a checked ASK frame of topic CHANNEL. -/
  | askChannel (tag source arg0 arg1 arg2 : Byte)
  /-- R118: a checked ASK frame of topic PROFILE. -/
  | askProfile (tag source arg0 arg1 arg2 : Byte)
  /-- R124: a checked ASK frame of topic INCIDENT. -/
  | askIncident (tag source arg0 arg1 arg2 : Byte)
  /-- R127: a checked ASK frame of topic COUNTERS. -/
  | askCounters (tag source arg0 arg1 arg2 : Byte)
  /-- R145: a checked ASK frame of topic LINK. -/
  | askLink (tag source arg0 arg1 arg2 : Byte)
  /-- R147: a checked ASK frame of topic SETTING. -/
  | askSetting (tag source arg0 arg1 arg2 : Byte)
  /-- R139: a checked ASK frame of topic PERMIT. -/
  | askPermit (tag source arg0 arg1 arg2 : Byte)
  /-- R154: a checked SET frame with this payload. -/
  | set (payload : List Byte)
  /-- R156: a checked LOCK frame with this payload. -/
  | lock (payload : List Byte)
  /-- R138: a checked PERMIT frame with this payload. -/
  | permit (payload : List Byte)
  /-- R116: a checked FORGET frame with this payload. -/
  | forget (payload : List Byte)
  /-- R41: a checked CLEAR_FAULT frame with this payload. -/
  | clearFault (payload : List Byte)
  /-- R130: a checked TAP frame with this payload. -/
  | tap (payload : List Byte)
  /-- R128: a checked COUNT_SELECT frame with this payload. -/
  | countSelect (payload : List Byte)
  /-- R159: a checked STORE frame with this payload. -/
  | store (payload : List Byte)
  /-- R160: a checked PARK frame with this payload. -/
  | park (payload : List Byte)
  /-- R162: a checked RESTART frame with this payload. -/
  | restart (payload : List Byte)
  /-- R144: a checked frame whose kind is no request kind. -/
  | unknownKind (kind : Byte) (payload : List Byte)
  /-- R142: a byte received normally on LRX. -/
  | receiveByte (b : Byte)
  /-- R141: a byte whose stop bit was low. -/
  | lineError
  /-- R142: the gap timer of the receive parser runs out. -/
  | gapTimerExpiry
  /-- R152: the transmitter finishes the report it is sending. -/
  | reportSent
  /-- R59: a sample of the supply feed, in mV. -/
  | supplySample (mV : Nat)
  /-- R62: the twentieth consecutive sample below U_CUT, in mV. -/
  | supplyCut (mV : Nat)
  /-- R60: the timer of the step window runs out. -/
  | stepWindowClose
  /-- R78: a sample of the vertical acceleration, in mg. -/
  | bodyMotionSample (mg : Int)
  /-- R80: the fiftieth consecutive reading at a limit of the sensor, in mg. -/
  | sensorFailed (mg : Int)
  /-- R39: the once-per-ms check of the current sense of channel `c`, in mA. -/
  | overcurrentCheck (c : Channel) (mA : Nat)
  /-- R39: the fifth consecutive check of channel `c` at or above the threshold, in mA. -/
  | overcurrentFault (c : Channel) (mA : Nat)
  /-- R37: a ms of channel `c` as its run credit counts it. -/
  | runCreditTick (c : Channel)
  /-- R37: the ms in which the recovery count of channel `c` reaches RECOVER. -/
  | creditRecovery (c : Channel)
  /-- R38: a ms that channel `c` spends in OPENING with a run credit of 0. -/
  | thermalLimit (c : Channel)
  /-- R48: a ms of DRIVE of channel `c`. -/
  | dutyRampTick (c : Channel)
  /-- R25: the hold timer of channel `c` runs out. -/
  | holdTimerExpiry (c : Channel)
  /-- R36: the held timer of channel `c` runs out. -/
  | heldTimerExpiry (c : Channel)
  /-- R50: the silence timer of channel `c` runs out. -/
  | silenceTimerExpiry (c : Channel)
  /-- R50: the brake-limit timer of channel `c` runs out. -/
  | brakeLimitTimerExpiry (c : Channel)
  /-- R99: the stall timer of channel `c` runs out. -/
  | stallExpiry (c : Channel)
  /-- R68: the blanking timer of channel `c` runs out. -/
  | blankingTimerExpiry (c : Channel)
  /-- R82: the speed timer runs out. -/
  | speedTimerExpiry
  /-- R158: the WRITE phase ends. `diff` is how the section then differs from the snapshot and its check, byte by byte from the first
  (exclusive-or), 0 where it does not and beyond the end of the list (log entry 3). -/
  | writePhaseEnd (diff : List Byte)
  /-- R158: the VERIFY phase ends. -/
  | verifyPhaseEnd
  /-- R160: a MARK_CLEAR that is due begins. -/
  | markClear
  /-- R63: power is applied. -/
  | powerOn
  /-- R161: the first supply sample at or above 5 500 mV after the part was held at its start. -/
  | coldStart
  /-- R47: a PWM period boundary of channel `c`. -/
  | pwmPeriodBoundary (c : Channel)
  /-- R69: `micros` µs of the time base pass, with these current-sense readings in mA. -/
  | currentAccumulatorTick (micros : Nat) (readings : Octet Nat)
  /-- R120: one ms of the log clock passes. -/
  | logClockTick
  deriving DecidableEq, Repr

end Sys2Proof
end

