-- ==== Sys2Proof/Decode.lean ====
section
/-! DEFINITION. Decoding a table word. No row of spec/opcode_table.json gives bits ("fields" is empty in every row and no
row has "fixed"), so no word spells a command: the commands reach the part as bytes of the body link (R141 to R144,
Machine/Requests.lean) and as events. -/

namespace Sys2Proof

/-- The command that a word of `nbits` bits spells by the table: none, for the table gives no row any bits. -/
def decodeTableWord (_nbits _w : Nat) : Option Instr := none

end Sys2Proof
end

