-- ==== Sys2Proof/Machine/Settings.lean ====
section
/-! DEFINITION. The items of the settings store (10_stored_settings_and_start_up.md): their codes, their ranges, their
fixed defaults (R155 and the tables of the owning chapters), the arithmetic of a SET (R154) and the clamping of loaded
items (R161). -/

namespace Sys2Proof.Machine

/-- `x` replaced by the nearer bound when it lies outside `lo..hi` (00_scope.md, "Ranges"). -/
def clampInt (lo hi x : Int) : Int := max lo (min hi x)

/-- `clampInt` on the natural numbers. -/
def clampNat (lo hi x : Nat) : Nat := max lo (min hi x)

/-- The per-channel items, in code order from 0x00 (R154). -/
inductive ChItem where
  | kind | travel | sealBand | slowBand
  | ci | cp | filterShift | bDefault
  | bFloor | bCeil
  | tBase | tCeil | mEmpty | mStale | mHeld
  | kt
  | winLen | mode | k | blank | stallMs | startStallMs
  | revDist | revMinPos | openTol | nHeld | heldS | holdMs
  | iStart | iRun
  | creditMax | creditStart | recover
  | dStart | dRun | dSeal | dInch | ramp
  | learnShift | learnStepMax | sInit | sMax | ageRuns | ageTemp
  deriving DecidableEq, Repr

/-- The global items, in code order from 0x40 (R154). -/
inductive GlItem where
  | budget | uSag | uCut | uStep | stepMs | aStep
  | kd | dMax | dRough | dDecay | kv | vMax
  | wrr | urgentKinds | lockAtStart
  deriving DecidableEq, Repr

/-- The per-channel items listed by code. -/
def chItems : List ChItem :=
  [.kind, .travel, .sealBand, .slowBand, .ci, .cp, .filterShift, .bDefault, .bFloor, .bCeil,
   .tBase, .tCeil, .mEmpty, .mStale, .mHeld, .kt, .winLen, .mode, .k, .blank, .stallMs, .startStallMs] ++
  [.revDist, .revMinPos, .openTol, .nHeld, .heldS, .holdMs, .iStart, .iRun, .creditMax, .creditStart, .recover,
   .dStart, .dRun, .dSeal, .dInch, .ramp, .learnShift, .learnStepMax, .sInit, .sMax, .ageRuns, .ageTemp]

/-- The global items listed by code from 0x40. -/
def glItems : List GlItem :=
  [.budget, .uSag, .uCut, .uStep, .stepMs, .aStep, .kd, .dMax, .dRough, .dDecay, .kv, .vMax, .wrr, .urgentKinds,
   .lockAtStart]

/-- An item of either scope. -/
inductive Item where
  | perChannel (i : ChItem)
  | global (i : GlItem)
  deriving DecidableEq, Repr

/-- The item an item code names (R154). -/
def itemOfCode (n : Nat) : Option Item :=
  if n < 64 then (chItems[n]?).map Item.perChannel else (glItems[n - 64]?).map Item.global

/-! ### Codes of the enumerations that are settings (R154, 09_the_body_link.md section 9.6) -/

def Kind.code : Kind → Nat
  | .window => 0 | .vent => 1 | .roofPanel => 2 | .roofShade => 3

def kindOfCode (n : Int) : Option Kind :=
  if n = 0 then some .window else if n = 1 then some .vent else if n = 2 then some .roofPanel
  else if n = 3 then some .roofShade else none

def AggMode.code : AggMode → Nat
  | .run => 0 | .count => 1 | .rise => 2

def aggModeOfCode (n : Int) : Option AggMode :=
  if n = 0 then some .run else if n = 1 then some .count else if n = 2 then some .rise else none

/-- WRR is coded by its weight, 0 for STRICT (R155). -/
def Weight.code : Weight → Nat
  | .strict => 0 | .four => 4 | .eight => 8 | .sixteen => 16

/-- The weight a SET of WRR takes (R155). -/
def weightOf (v : Int) : Weight :=
  if v ≤ 0 then .strict else if v ≤ 7 then .four else if v ≤ 15 then .eight else .sixteen

/-! ### Defaults -/

/-- The default charges of a kind, I_START then I_RUN in mA (section 3.2). -/
def kindCharges : Kind → Nat × Nat
  | .window => (9000, 4000) | .vent => (5000, 2000) | .roofPanel => (12000, 5000) | .roofShade => (3000, 1500)

/-- The default TRAVEL of a kind (R155). -/
def kindTravel : Kind → Nat
  | .window => 3200 | .vent => 800 | .roofPanel => 4000 | .roofShade => 2400

/-- The default kind of a channel (R155). -/
def defaultKind (c : Channel) : Kind :=
  if c.val < 4 then .window else if c.val < 6 then .vent else if c.val = 6 then .roofPanel else .roofShade

/-- The fixed defaults of a channel's items: the tables of Chapters 3 to 6 and R155. -/
def defaultChannelSettings (c : Channel) : ChannelSettings where
  kind := defaultKind c
  travel := kindTravel (defaultKind c)
  sealBand := 60
  slowBand := 200
  ci := 20
  cp := 40
  filterShift := 2
  bDefault := 220
  bFloor := 100
  bCeil := 600
  tBase := 60
  tCeil := 180
  mEmpty := 40
  mStale := 20
  mHeld := 30
  kt := 24
  winLen := 8
  mode := .run
  k := 3
  blank := 24
  stallMs := 30
  startStallMs := 200
  revDist := 600
  revMinPos := 800
  openTol := 40
  nHeld := 3
  heldS := 30
  holdMs := 150
  iStart := (kindCharges (defaultKind c)).1
  iRun := (kindCharges (defaultKind c)).2
  creditMax := 90000
  creditStart := 15000
  recover := 4
  dStart := 140
  dRun := 255
  dSeal := 160
  dInch := 120
  ramp := 8
  learnShift := 2
  learnStepMax := 12
  sInit := 8
  sMax := 60
  ageRuns := 40
  ageTemp := 15

/-- The fixed defaults of the global items: the tables of Chapters 3 and 4 and R155. -/
def defaultGlobalSettings : GlobalSettings where
  budget := 30000
  uSag := 9000
  uCut := 7000
  uStep := 600
  stepMs := 40
  aStep := 25
  kd := 8
  dMax := 40
  dRough := 400
  dDecay := 10
  kv := 4
  vMax := 30
  wrr := .eight
  urgentKinds := 19
  lockAtStart := false

/-- The figures of an EMPTY zone (R103). -/
def emptyZone : ZoneRecord := { state := .empty, baseline := 0, spread := 0, stamp := 0, tz := 20 }

def emptyZones : Zones := Vector.replicate 64 emptyZone

/-- The default permission row of each source (R133), by source code. -/
def defaultPerms : Octet (Octet Perm) :=
  let all : Octet Perm := ⟨.allow, .allow, .allow, .allow, .allow, .allow, .allow, .allow⟩
  { c0 := all
    c1 := ⟨.deny, .allow, .deny, .deny, .deny, .deny, .deny, .deny⟩
    c2 := ⟨.deny, .deny, .allow, .deny, .allow, .deny, .deny, .deny⟩
    c3 := ⟨.deny, .deny, .deny, .allow, .deny, .allow, .deny, .deny⟩
    c4 := ⟨.deny, .deny, .deny, .deny, .deny, .deny, .allow, .allow⟩
    c5 := all
    c6 := all
    c7 := all }

/-- The default privileged set (R133): BODY and SERVICE. -/
def defaultPriv : Octet Bool := ⟨false, false, false, false, false, false, true, true⟩

/-- What the store uses when the check of the SETTINGS section fails (R161). -/
def defaultContent : SettingsContent where
  globals := defaultGlobalSettings
  channels := Octet.ofFn defaultChannelSettings
  perms := defaultPerms
  priv := defaultPriv
  zones := Octet.ofFn fun _ => emptyZones
  runCounters := Octet.ofFn fun _ => 0

/-! ### The active value of an item -/

/-- The active value of a per-channel item, enumerations by their codes. -/
def chItemValue (cs : ChannelSettings) : ChItem → Int
  | .kind => Kind.code cs.kind
  | .travel => cs.travel
  | .sealBand => cs.sealBand
  | .slowBand => cs.slowBand
  | .ci => cs.ci
  | .cp => cs.cp
  | .filterShift => cs.filterShift
  | .bDefault => cs.bDefault
  | .bFloor => cs.bFloor
  | .bCeil => cs.bCeil
  | .tBase => cs.tBase
  | .tCeil => cs.tCeil
  | .mEmpty => cs.mEmpty
  | .mStale => cs.mStale
  | .mHeld => cs.mHeld
  | .kt => cs.kt
  | .winLen => cs.winLen
  | .mode => AggMode.code cs.mode
  | .k => cs.k
  | .blank => cs.blank
  | .stallMs => cs.stallMs
  | .startStallMs => cs.startStallMs
  | .revDist => cs.revDist
  | .revMinPos => cs.revMinPos
  | .openTol => cs.openTol
  | .nHeld => cs.nHeld
  | .heldS => cs.heldS
  | .holdMs => cs.holdMs
  | .iStart => cs.iStart
  | .iRun => cs.iRun
  | .creditMax => cs.creditMax
  | .creditStart => cs.creditStart
  | .recover => cs.recover
  | .dStart => cs.dStart
  | .dRun => cs.dRun
  | .dSeal => cs.dSeal
  | .dInch => cs.dInch
  | .ramp => cs.ramp
  | .learnShift => cs.learnShift
  | .learnStepMax => cs.learnStepMax
  | .sInit => cs.sInit
  | .sMax => cs.sMax
  | .ageRuns => cs.ageRuns
  | .ageTemp => cs.ageTemp

/-- The active value of a global item. -/
def glItemValue (g : GlobalSettings) : GlItem → Int
  | .budget => g.budget
  | .uSag => g.uSag
  | .uCut => g.uCut
  | .uStep => g.uStep
  | .stepMs => g.stepMs
  | .aStep => g.aStep
  | .kd => g.kd
  | .dMax => g.dMax
  | .dRough => g.dRough
  | .dDecay => g.dDecay
  | .kv => g.kv
  | .vMax => g.vMax
  | .wrr => Weight.code g.wrr
  | .urgentKinds => g.urgentKinds.toNat
  | .lockAtStart => if g.lockAtStart then 1 else 0

/-! ### Ranges -/

/-- The range of a per-channel item as the other settings in force make it (R155, R57, R100, R114, R115 and the tables
of Chapters 3 to 6). KIND and MODE are enumerations; their entry is not used for clamping. -/
def chItemRange (g : GlobalSettings) (cs : ChannelSettings) : ChItem → Int × Int
  | .kind => (0, 3)
  | .travel => (64, 4000)
  | .sealBand => (0, min 400 (cs.travel / 4 : Nat))
  | .slowBand => (0, 1000)
  | .ci => (0, 255)
  | .cp => (0, 255)
  | .filterShift => (0, 4)
  | .bDefault => (0, 32767)
  | .bFloor => (0, cs.bCeil)
  | .bCeil => (cs.bFloor, 32767)
  | .tBase => (0, 500)
  | .tCeil => (1, 1000)
  | .mEmpty => (0, 200)
  | .mStale => (0, 200)
  | .mHeld => (0, 200)
  | .kt => (0, 255)
  | .winLen => (4, 16)
  | .mode => (0, 2)
  | .k => (1, cs.winLen)
  | .blank => (0, 64)
  | .stallMs => (5, 1000)
  | .startStallMs => (20, 5000)
  | .revDist => (0, 4000)
  | .revMinPos => (0, 4000)
  | .openTol => (0, 400)
  | .nHeld => (2, 8)
  | .heldS => (1, 600)
  | .holdMs => (50, 1000)
  | .iStart => (0, g.budget)
  | .iRun => (0, cs.iStart)
  | .creditMax => (10000, 600000)
  | .creditStart => (0, 600000)
  | .recover => (1, 100)
  | .dStart => (64, 255)
  | .dRun => (64, 255)
  | .dSeal => (64, 255)
  | .dInch => (64, 255)
  | .ramp => (1, 255)
  | .learnShift => (1, 4)
  | .learnStepMax => (1, 200)
  | .sInit => (0, cs.sMax)
  | .sMax => (1, 1023)
  | .ageRuns => (4, 1000)
  | .ageTemp => (5, 60)

/-- The range of a global item that is a number (the tables of Chapters 3 and 4; U_CUT by R62). The last three items
are taken by `glItemTaken` directly. -/
def glItemRange (g : GlobalSettings) : GlItem → Int × Int
  | .budget => (5000, 80000)
  | .uSag => (6000, 15000)
  | .uCut => (5600, min 14999 (g.uSag - 1 : Nat))
  | .uStep => (100, 5000)
  | .stepMs => (1, 500)
  | .aStep => (0, 200)
  | .kd => (0, 255)
  | .dMax => (0, 200)
  | .dRough => (0, 4000)
  | .dDecay => (1, 4000)
  | .kv => (0, 255)
  | .vMax => (0, 200)
  | .wrr => (0, 16)
  | .urgentKinds => (0, 63)
  | .lockAtStart => (0, 1)

/-- The value a SET of a global item takes (R154 test 4, R155): the nearest bound of a number, and for the three items
of R155 what their row says. A negative URGENT_KINDS is the empty set, and weights above 32 are cleared (log entry 20). -/
def glItemTaken (g : GlobalSettings) (i : GlItem) (v : Int) : Int :=
  match i with
  | .wrr => Weight.code (weightOf v)
  | .urgentKinds => if v < 0 then 0 else v % 64
  | .lockAtStart => if v = 0 then 0 else 1
  | _ => clampInt (glItemRange g i).1 (glItemRange g i).2 v

/-- The value a SET of a per-channel item takes (R154 test 4). A MODE that names none stays as it was (R100). -/
def chItemTaken (g : GlobalSettings) (cs : ChannelSettings) (i : ChItem) (v : Int) : Int :=
  match i with
  | .mode => match aggModeOfCode v with
    | some m => AggMode.code m
    | none => AggMode.code cs.mode
  | _ => clampInt (chItemRange g cs i).1 (chItemRange g cs i).2 v

/-! ### Writing an item -/

/-- `cs` with one item replaced by the value `v` that a SET has taken. -/
def putChItem (cs : ChannelSettings) (i : ChItem) (v : Int) : ChannelSettings :=
  match i with
  | .kind => { cs with kind := (kindOfCode v).getD cs.kind }
  | .travel => { cs with travel := v.toNat }
  | .sealBand => { cs with sealBand := v.toNat }
  | .slowBand => { cs with slowBand := v.toNat }
  | .ci => { cs with ci := v.toNat }
  | .cp => { cs with cp := v.toNat }
  | .filterShift => { cs with filterShift := v.toNat }
  | .bDefault => { cs with bDefault := v.toNat }
  | .bFloor => { cs with bFloor := v.toNat }
  | .bCeil => { cs with bCeil := v.toNat }
  | .tBase => { cs with tBase := v.toNat }
  | .tCeil => { cs with tCeil := v.toNat }
  | .mEmpty => { cs with mEmpty := v.toNat }
  | .mStale => { cs with mStale := v.toNat }
  | .mHeld => { cs with mHeld := v.toNat }
  | .kt => { cs with kt := v.toNat }
  | .winLen => { cs with winLen := v.toNat }
  | .mode => { cs with mode := (aggModeOfCode v).getD cs.mode }
  | .k => { cs with k := v.toNat }
  | .blank => { cs with blank := v.toNat }
  | .stallMs => { cs with stallMs := v.toNat }
  | .startStallMs => { cs with startStallMs := v.toNat }
  | .revDist => { cs with revDist := v.toNat }
  | .revMinPos => { cs with revMinPos := v.toNat }
  | .openTol => { cs with openTol := v.toNat }
  | .nHeld => { cs with nHeld := v.toNat }
  | .heldS => { cs with heldS := v.toNat }
  | .holdMs => { cs with holdMs := v.toNat }
  | .iStart => { cs with iStart := v.toNat }
  | .iRun => { cs with iRun := v.toNat }
  | .creditMax => { cs with creditMax := v.toNat }
  | .creditStart => { cs with creditStart := v.toNat }
  | .recover => { cs with recover := v.toNat }
  | .dStart => { cs with dStart := v.toNat }
  | .dRun => { cs with dRun := v.toNat }
  | .dSeal => { cs with dSeal := v.toNat }
  | .dInch => { cs with dInch := v.toNat }
  | .ramp => { cs with ramp := v.toNat }
  | .learnShift => { cs with learnShift := v.toNat }
  | .learnStepMax => { cs with learnStepMax := v.toNat }
  | .sInit => { cs with sInit := v.toNat }
  | .sMax => { cs with sMax := v.toNat }
  | .ageRuns => { cs with ageRuns := v.toNat }
  | .ageTemp => { cs with ageTemp := v.toNat }

/-- `g` with one global item replaced by the value `v` that a SET has taken. -/
def putGlItem (g : GlobalSettings) (i : GlItem) (v : Int) : GlobalSettings :=
  match i with
  | .budget => { g with budget := v.toNat }
  | .uSag => { g with uSag := v.toNat }
  | .uCut => { g with uCut := v.toNat }
  | .uStep => { g with uStep := v.toNat }
  | .stepMs => { g with stepMs := v.toNat }
  | .aStep => { g with aStep := v.toNat }
  | .kd => { g with kd := v.toNat }
  | .dMax => { g with dMax := v.toNat }
  | .dRough => { g with dRough := v.toNat }
  | .dDecay => { g with dDecay := v.toNat }
  | .kv => { g with kv := v.toNat }
  | .vMax => { g with vMax := v.toNat }
  | .wrr => { g with wrr := weightOf v }
  | .urgentKinds => { g with urgentKinds := BitVec.ofInt 6 v }
  | .lockAtStart => { g with lockAtStart := v ≠ 0 }

/-! ### Settings that follow other settings -/

/-- The other items of the channel that a taken item adjusts: TRAVEL lowers SEAL_BAND (R155), WIN_LEN lowers K (R100),
S_MAX lowers S_INIT (R115), I_START lowers I_RUN and KIND loads its charges, each at most BUDGET (R57). -/
def chItemFollow (g : GlobalSettings) (i : ChItem) (cs : ChannelSettings) : ChannelSettings :=
  match i with
  | .travel => { cs with sealBand := min cs.sealBand (cs.travel / 4) }
  | .winLen => { cs with k := min cs.k cs.winLen }
  | .sMax => { cs with sInit := min cs.sInit cs.sMax }
  | .iStart => { cs with iRun := min cs.iRun cs.iStart }
  | .kind => { cs with iStart := min (kindCharges cs.kind).1 g.budget, iRun := min (kindCharges cs.kind).2 g.budget }
  | _ => cs

/-- A channel's settings under a BUDGET just taken: I_START and I_RUN lowered to it (R57). -/
def underBudget (budget : Nat) (cs : ChannelSettings) : ChannelSettings :=
  { cs with iStart := min cs.iStart budget, iRun := min cs.iRun budget }

/-- U_CUT as a U_SAG just taken leaves it (R62). -/
def underSag (g : GlobalSettings) : GlobalSettings :=
  { g with uCut := if g.uSag ≤ g.uCut then max 5600 (g.uSag - 1) else g.uCut }

/-! ### The clamping of what a cold start loads (R161) -/

/-- Every global item into its range, U_CUT below U_SAG. -/
def clampGlobals (g : GlobalSettings) : GlobalSettings :=
  let uSag := clampNat 6000 15000 g.uSag
  { g with
    budget := clampNat 5000 80000 g.budget
    uSag := uSag
    uCut := clampNat 5600 (min 14999 (uSag - 1)) g.uCut
    uStep := clampNat 100 5000 g.uStep
    stepMs := clampNat 1 500 g.stepMs
    aStep := min 200 g.aStep
    kd := min 255 g.kd
    dMax := min 200 g.dMax
    dRough := min 4000 g.dRough
    dDecay := clampNat 1 4000 g.dDecay
    kv := min 255 g.kv
    vMax := min 200 g.vMax }

/-- Every per-channel item into its range and dependencies, given the loaded globals. Of a B_FLOOR loaded above its B_CEIL, that the floor
gives way is the model's choice (log entry 29). -/
def clampChannel (g : GlobalSettings) (cs : ChannelSettings) : ChannelSettings :=
  let travel := clampNat 64 4000 cs.travel
  let bCeil := min 32767 cs.bCeil
  let winLen := clampNat 4 16 cs.winLen
  let iStart := min g.budget cs.iStart
  let sMax := clampNat 1 1023 cs.sMax
  { cs with
    travel := travel
    sealBand := min (min 400 (travel / 4)) cs.sealBand
    slowBand := min 1000 cs.slowBand
    ci := min 255 cs.ci
    cp := min 255 cs.cp
    filterShift := min 4 cs.filterShift
    bDefault := min 32767 cs.bDefault
    bFloor := min bCeil cs.bFloor
    bCeil := bCeil
    tBase := min 500 cs.tBase
    tCeil := clampNat 1 1000 cs.tCeil
    mEmpty := min 200 cs.mEmpty
    mStale := min 200 cs.mStale
    mHeld := min 200 cs.mHeld
    kt := min 255 cs.kt
    winLen := winLen
    k := clampNat 1 winLen cs.k
    blank := min 64 cs.blank
    stallMs := clampNat 5 1000 cs.stallMs
    startStallMs := clampNat 20 5000 cs.startStallMs
    revDist := min 4000 cs.revDist
    revMinPos := min 4000 cs.revMinPos
    openTol := min 400 cs.openTol
    nHeld := clampNat 2 8 cs.nHeld
    heldS := clampNat 1 600 cs.heldS
    holdMs := clampNat 50 1000 cs.holdMs
    iStart := iStart
    iRun := min iStart cs.iRun
    creditMax := clampNat 10000 600000 cs.creditMax
    creditStart := min 600000 cs.creditStart
    recover := clampNat 1 100 cs.recover
    dStart := clampNat 64 255 cs.dStart
    dRun := clampNat 64 255 cs.dRun
    dSeal := clampNat 64 255 cs.dSeal
    dInch := clampNat 64 255 cs.dInch
    ramp := clampNat 1 255 cs.ramp
    learnShift := clampNat 1 4 cs.learnShift
    learnStepMax := clampNat 1 200 cs.learnStepMax
    sInit := min sMax cs.sInit
    sMax := sMax
    ageRuns := clampNat 4 1000 cs.ageRuns
    ageTemp := clampNat 5 60 cs.ageTemp }

/-- A loaded zone record with its baseline in the loaded bounds and its spread in 0..S_MAX (R119). An EMPTY zone takes
the EMPTY figures (R103). -/
def clampZone (cs : ChannelSettings) (z : ZoneRecord) : ZoneRecord :=
  match z.state with
  | .empty => emptyZone
  | _ => { z with baseline := clampNat cs.bFloor cs.bCeil z.baseline, spread := min cs.sMax z.spread }

/-- `f` on each of the 64 zones, with the zone's number. -/
def mapZones {α β : Type} (f : Fin 64 → α → β) (zs : Vector α 64) : Vector β 64 :=
  Vector.ofFn fun i => f i zs[i]

/-- The SETTINGS content as a cold start takes it from a section whose check is good (R161 step 1). -/
def clampContent (x : SettingsContent) : SettingsContent :=
  let g := clampGlobals x.globals
  let chans := x.channels.map (clampChannel g)
  { x with
    globals := g
    channels := chans
    zones := Octet.ofFn fun c => mapZones (fun _ z => clampZone (chans.get c) z) (x.zones.get c) }

end Sys2Proof.Machine
end

