-- ==== Sys2Proof/Machine/Blocks.lean ====
section
/-! DEFINITION. The state of each block of the part (00_scope.md, "Block overview") as plain data, the reports and
incident records that travel between them, and the values each block takes at a cold start and at a warm restart. -/

namespace Sys2Proof.Machine

/-! ### Position tracker (section 1.1) -/

/-- The levels of a channel's two Hall lines. -/
structure HallPair where
  a : Bool
  b : Bool
  deriving DecidableEq, Repr, Inhabited

/-- The position tracker of one channel (section 1.1). -/
structure Tracker where
  hall        : HallPair
  lastStamp   : BitVec 32
  longPast    : Bool
  position    : Int
  uncertainty : Nat
  /-- Oldest first; `true` is VALID. -/
  history     : List Bool
  referenced  : Bool
  deriving DecidableEq, Repr, Inhabited

/-! ### Channel controller (section 2.1) -/

/-- The motion states (R17). -/
inductive Motion where
  | idle | waiting | closing | opening | reversing | braking | faulted
  deriving DecidableEq, Repr, Inhabited

/-- A move record (R18). The target of an opening MANUAL or EXPRESS move is TRAVEL, of a closing one 0. -/
structure Move where
  mode   : MoveMode
  dir    : Dir
  target : Nat
  source : Source
  deriving DecidableEq, Repr, Inhabited

/-- What ends a braking (section 2.1). -/
inductive AfterBrake where
  | goIdle | reverse | requeue
  deriving DecidableEq, Repr, Inhabited

/-- The reasons of a MOVE_END notice (R44). -/
inductive Reason where
  | targetReached | closedEnd | openEnd | holdLapsed | halted | reversalDone | obstructed | thermalLimit | supplyCut
  | desync
  deriving DecidableEq, Repr, Inhabited

/-- The channel controller of one channel (section 2.1). Timers in ms. -/
structure Controller where
  motion         : Motion
  move           : Option Move
  slot           : Option Move
  afterBrake     : AfterBrake
  endReason      : Option Reason
  reversalTarget : Nat
  reversalOpen   : Bool
  holdTimer      : Timer
  streak         : Nat
  held           : Bool
  heldTimer      : Timer
  credit         : Nat
  recovery       : Nat
  overcurrent    : Nat
  deriving DecidableEq, Repr, Inhabited

/-! ### Drive unit (section 3.1) -/

/-- What the bridge is doing (R46). -/
inductive DriveMode where
  | off | drive | brake
  deriving DecidableEq, Repr, Inhabited

/-- Which duty target applies while in DRIVE (R48). -/
inductive DutyProfile where
  | normal | inch
  deriving DecidableEq, Repr, Inhabited

/-- The drive unit of one channel (section 3.1). Timers in ms. -/
structure Drive where
  mode       : DriveMode
  dir        : Option Dir
  profile    : DutyProfile
  target     : Nat
  staged     : Nat
  applied    : Nat
  silence    : Timer
  brakeLimit : Timer
  deriving DecidableEq, Repr, Inhabited

/-! ### Start arbiter (section 3.2) -/

/-- One entry of the start queue (R52). -/
structure QueueEntry where
  channel : Channel
  passes  : Nat
  deriving DecidableEq, Repr, Inhabited

/-- What the arbiter holds for one channel (section 3.2). The charge sum is computed from the eight charges. -/
structure Grant where
  held        : Bool
  startCharge : Nat
  runCharge   : Nat
  inBlanking  : Bool
  charge      : Nat
  deriving DecidableEq, Repr, Inhabited

/-! ### Supply monitor (section 3.3) -/

/-- The supply monitor. The history is oldest first; the step window is open while its timer is not stopped. -/
structure SupplyMonitor where
  value      : Nat
  history    : List Nat
  stepWindow : Timer
  sag        : Bool
  cutCount   : Nat
  deriving DecidableEq, Repr, Inhabited

/-! ### Effort estimator and vehicle data (section 4.1) -/

/-- The direction of a drive phase (R66). -/
inductive Phase where
  | closing | opening | reversing
  deriving DecidableEq, Repr, Inhabited

/-- The figures of the newest sample that an ASK reports (R77). -/
structure EffortFigures where
  f         : Nat
  bEff      : Nat
  allowance : Nat
  residue   : Int
  deriving DecidableEq, Repr, Inhabited

/-- The effort estimator of one channel (section 4.1). `readings` is the current accumulator: the readings since the
last restart as runs of (mA, µs), newest first, at most 65 535 µs of them (R69). -/
structure Estimator where
  phase      : Option Phase
  sampleNo   : Nat
  filter     : Option Nat
  blankTimer : Timer
  readings   : List (Nat × Nat)
  newest     : Option EffortFigures
  deriving DecidableEq, Repr, Inhabited

/-- The vehicle data (section 4.1). -/
structure VehicleData where
  speed      : Option Nat
  speedTimer : Timer
  temp       : Int
  tempKnown  : Bool
  deriving DecidableEq, Repr, Inhabited

/-- The body motion monitor (section 4.4). -/
structure BodyMotion where
  rest       : Option Int
  dlev       : Nat
  limitCount : Nat
  failed     : Bool
  deriving DecidableEq, Repr, Inhabited

/-! ### Verdict unit (section 5.1) -/

/-- The class of a sample (R88). -/
inductive SampleClass where
  | none | low | watch | trip
  deriving DecidableEq, Repr, Inhabited

/-- What the window keeps of one sample (section 5.1). -/
structure Slot where
  position : Int
  residue  : Int
  tl       : Nat
  cls      : SampleClass
  valid    : Bool
  deriving DecidableEq, Repr, Inhabited

/-- The newest figures of the verdict unit (section 5.1). -/
structure VerdictFigures where
  tl        : Nat
  wl        : Nat
  cls       : SampleClass
  valid     : Bool
  disturbed : Bool
  deriving DecidableEq, Repr, Inhabited

/-- The verdict unit of one channel (section 5.1). The window is newest first. The stall timer runs from
START_STALL_MS until the first edge is seen and from STALL_MS afterwards (R98). -/
structure VerdictUnit where
  window     : List Slot
  decided    : Bool
  stallTimer : Timer
  firstEdge  : Bool
  newest     : Option VerdictFigures
  deriving DecidableEq, Repr, Inhabited

/-! ### Profile table (section 6.1) -/

/-- The accumulation of one zone in a run record (R105). -/
structure ZoneAcc where
  sum   : Nat
  count : Nat
  clean : Bool
  deriving DecidableEq, Repr, Inhabited

/-- The record of a closing run (R105). -/
structure RunRecord where
  startPos         : Int
  referencedAtStart : Bool
  heldAtStart      : Bool
  unreferencedSeen : Bool
  verdictMark      : Bool
  zones            : Vector ZoneAcc 64
  deriving DecidableEq, Repr, Inhabited

/-- The outcomes of a last run result (R113). -/
inductive RunOutcome where
  | qualified | notQualified | abandoned | discarded | none
  deriving DecidableEq, Repr, Inhabited

/-- The conditions of R108 a run can fail. -/
inductive RunFailure where
  | notReferenced | held | verdict | shortStart
  deriving DecidableEq, Repr, Inhabited

/-- The last run result of a channel (R113). -/
structure LastRun where
  outcome    : RunOutcome
  failed     : Option RunFailure
  startPos   : Int
  cleanMask  : BitVec 64
  updated    : Nat
  madeStale  : Nat
  madeEmpty  : Nat
  runCounter : BitVec 16
  deriving DecidableEq, Repr, Inhabited

/-- The profile of one channel (section 6.1). -/
structure Profile where
  zones      : Zones
  runCounter : BitVec 16
  record     : Option RunRecord
  lastRun    : LastRun
  deriving DecidableEq, Repr, Inhabited

/-! ### Counter bank and sample tap (sections 7.4, 7.5) -/

/-- The twelve events a counter can be aimed at, in the order of R126. -/
inductive CounterChoice where
  | closeRuns | openRuns | bandReversals | stallReversals
  | samples | invalidSamples | watchSamples | tripSamples
  | hallInvalid | disturbedSamples | zoneUpdates | thermalRefusals
  deriving DecidableEq, Repr, Inhabited

/-- One counter and its select (R126). -/
structure Counter where
  value  : BitVec 32
  select : CounterChoice
  deriving DecidableEq, Repr, Inhabited

/-- The three counters of one channel (section 7.4). -/
structure Counters where
  a : Counter
  b : Counter
  c : Counter
  deriving DecidableEq, Repr, Inhabited

/-- A set of drive phases (R130). -/
structure PhaseSet where
  closing   : Bool
  opening   : Bool
  reversing : Bool
  deriving DecidableEq, Repr, Inhabited

/-- The sample tap (section 7.5). -/
structure Tap where
  channel : Option Channel
  phases  : PhaseSet
  skipped : Nat
  deriving DecidableEq, Repr, Inhabited

/-! ### Samples and verdicts as they are handed on -/

/-- A formed sample (R77) completed by the verdict unit (R86). -/
structure Sample where
  channel    : Channel
  phase      : Phase
  number     : Nat
  first      : Bool
  stamp      : BitVec 32
  position   : Int
  zone       : Fin 64
  referenced : Bool
  p          : Nat
  i          : Nat
  u          : Nat
  dty        : Nat
  temp       : Int
  tempKnown  : Bool
  speed      : Option Nat
  dlev       : Nat
  stepOpen   : Bool
  record     : ZoneRecord
  pn         : Nat
  e          : Nat
  f          : Nat
  bEff       : Nat
  aDist      : Nat
  aSupply    : Nat
  aSpeed     : Nat
  allowance  : Nat
  residue    : Int
  tl         : Nat
  wl         : Nat
  cls        : SampleClass
  valid      : Bool
  disturbed  : Bool
  deriving DecidableEq, Repr, Inhabited

/-- A verdict record (R96). -/
structure Verdict where
  channel      : Channel
  phase        : Phase
  number       : Nat
  position     : Int
  residue      : Int
  tl           : Nat
  mode         : AggMode
  hitMask      : BitVec 16
  hitIndex     : Nat
  validLength  : Nat
  firstHit     : Int
  aDist        : Nat
  aSupply      : Nat
  aSpeed       : Nat
  dty          : Nat
  u            : Nat
  deriving DecidableEq, Repr, Inhabited

/-! ### Incident log (section 7.1) -/

/-- The kinds of incident (R121). -/
inductive IncidentKind where
  | bandPinch | stallPinch | openObstruct | desync | hallFault | overcurrent | supplyCut
  deriving DecidableEq, Repr, Inhabited

/-- The move mode an incident record carries (R121). -/
inductive IncidentMode where
  | manual | express | target | reversal | none
  deriving DecidableEq, Repr, Inhabited

/-- The pinch group of an incident record (R122). -/
structure PinchGroup where
  firstHit       : Int
  reversalTarget : Nat
  deriving DecidableEq, Repr, Inhabited

/-- The band group of an incident record (R122). -/
structure BandGroup where
  residue     : Int
  tl          : Nat
  mode        : AggMode
  hitMask     : BitVec 16
  hitIndex    : Nat
  validLength : Nat
  aDist       : Nat
  aSupply     : Nat
  aSpeed      : Nat
  deriving DecidableEq, Repr, Inhabited

/-- An incident record (R121, R122). -/
structure Incident where
  tag        : BitVec 16
  time       : BitVec 32
  channel    : Channel
  kind       : IncidentKind
  motion     : Motion
  mode       : IncidentMode
  source     : Option Source
  position   : Int
  zone       : Fin 64
  duty       : Nat
  supply     : Nat
  temp       : Int
  streak     : Nat
  held       : Bool
  runCounter : BitVec 16
  pinch      : Option PinchGroup
  band       : Option BandGroup
  deriving DecidableEq, Repr, Inhabited

/-- The incident log (section 7.1). The ring is oldest first. -/
structure IncidentLog where
  ring    : List Incident
  nextTag : BitVec 16
  clock   : BitVec 32
  deriving DecidableEq, Repr, Inhabited

/-! ### Body link (Chapter 9) -/

/-- The statuses and outcomes of R148. -/
inductive Status where
  | done | started | queued | merged | pending | denied | referred | refusedHeld | refusedUnref | refusedThermal
  | refusedReversing | refusedFault | locked | busy | malformed | clamped
  deriving DecidableEq, Repr, Inhabited

/-- The change kinds of R44. -/
inductive ChangeKind where
  | moveEnd | held | referenced | fault
  deriving DecidableEq, Repr, Inhabited

/-- The fault kinds of R44. -/
inductive FaultKind where
  | hallFault | overcurrent
  deriving DecidableEq, Repr, Inhabited

/-- The content of a CHANGE notice (R44, R149). -/
structure Change where
  kind       : ChangeKind
  channel    : Channel
  motion     : Motion
  position   : Int
  referenced : Bool
  held       : Bool
  streak     : Nat
  reason     : Option Reason
  fault      : Option FaultKind
  outcome    : Option Status
  deriving DecidableEq, Repr, Inhabited

/-- The store operations (R158). -/
inductive OpKind where
  | store | park | markClear
  deriving DecidableEq, Repr, Inhabited

/-- A report on its way to the line (R148, R149). The content of an ANSWER is its fields in order (R150). -/
inductive Report where
  | answer (tag kind : Byte) (status : Status) (content : List (List Byte))
  | incident (r : Incident)
  | change (n : Change)
  | refer (tag kind source mask : Byte) (content : List Byte)
  | tapSample (s : Sample) (skipped : Nat)
  | stored (op : OpKind) (mismatch : Nat)
  deriving DecidableEq, Repr, Inhabited

/-- The classes by which R151 sorts reports. -/
inductive ReportClass where
  | answerMove | answerHalt | answerOther | change | refer | stored | incident | tapSample
  deriving DecidableEq, Repr, Inhabited

/-- The states of the receive parser (R142). -/
inductive ParserState where
  | hunt | length | body | check
  deriving DecidableEq, Repr, Inhabited

/-- The receive parser (R142). `bytes` are the kind and payload bytes kept so far, in the order received. -/
structure Parser where
  state    : ParserState
  length   : Nat
  bytes    : List Byte
  crc      : Byte
  gapTimer : Timer
  deriving DecidableEq, Repr, Inhabited

/-- The link counters (R145). -/
structure LinkCounters where
  framesOk     : BitVec 32
  dropRunt     : BitVec 32
  dropOversize : BitVec 32
  dropGap      : BitVec 32
  dropLine     : BitVec 32
  dropCheck    : BitVec 32
  unknownKind  : BitVec 32
  badLength    : BitVec 32
  urgentLost   : BitVec 32
  routineLost  : BitVec 32
  deriving DecidableEq, Repr, Inhabited

/-- The body link interface: receive parser, report queues oldest first, transmitter and counters (Chapter 9). -/
structure Link where
  parser    : Parser
  urgent    : List Report
  routine   : List Report
  urgentRun : Nat
  sending   : Option Report
  counters  : LinkCounters
  deriving DecidableEq, Repr, Inhabited

/-! ### Settings store (section 10.1) -/

/-- The phase of an operation in flight (R158). -/
inductive OpPhase where
  | write | verify
  deriving DecidableEq, Repr, Inhabited

/-- What an operation in flight writes: the snapshot (section 10.1). -/
inductive Snapshot where
  | store (x : SettingsContent)
  | park (x : ParkContent)
  | markClear (x : ParkContent)
  deriving DecidableEq, Repr

/-- The operation in flight, with the ms its phase has left. -/
structure Operation where
  snapshot : Snapshot
  phase    : OpPhase
  left     : Nat
  deriving DecidableEq, Repr

/-- One section of the image: what its content reads as, whether its CRC-16 check passes (R157), and how many of its bytes differ from
what the last operation meant to write. -/
structure Section (α : Type) where
  content   : α
  checkGood : Bool
  wrong     : Nat
  deriving DecidableEq, Repr

/-- The non-volatile image (R157). -/
structure Image where
  settings : Section SettingsContent
  park     : Section ParkContent
  deriving DecidableEq, Repr

/-- The settings store beside the active settings (section 10.1). -/
structure Store where
  locked       : Bool
  op           : Option Operation
  markStanding : Bool
  clearDue     : Bool
  image        : Image
  deriving DecidableEq, Repr

/-! ### Pins and power -/

/-- The input pins of one channel as they now stand: its Hall pair and its current-sense reading in mA. -/
structure Pins where
  hall    : HallPair
  current : Nat
  deriving DecidableEq, Repr, Inhabited

/-- Whether the part is held at its start or operating (R63). -/
inductive Power where
  | held | running
  deriving DecidableEq, Repr, Inhabited

/-- One channel slice: its settings and the blocks replicated per channel, with the shared blocks' part of it. -/
structure Slice where
  cfg : ChannelSettings
  trk : Tracker
  ctl : Controller
  drv : Drive
  arb : Grant
  est : Estimator
  vdu : VerdictUnit
  prf : Profile
  ctr : Counters
  deriving DecidableEq, Repr, Inhabited

/-! ### Values at a cold start -/

/-- The position and referenced flag that a cold start gives a tracker (R15). -/
def parkedPosition (travel : Nat) (checkGood mark : Bool) (stored : Int) : Int × Bool :=
  if checkGood && mark then (stored, decide (-16 ≤ stored ∧ stored ≤ travel + 16)) else (0, false)

/-- R15. -/
def coldTracker (hall : HallPair) (pos : Int × Bool) : Tracker where
  hall := hall
  lastStamp := 0
  longPast := true
  position := pos.1
  uncertainty := 0
  history := []
  referenced := pos.2

/-- R45: the values at a cold start, with the credit given. -/
def coldController (credit : Nat) : Controller where
  motion := .idle
  move := none
  slot := none
  afterBrake := .goIdle
  endReason := none
  reversalTarget := 0
  reversalOpen := false
  holdTimer := none
  streak := 0
  held := false
  heldTimer := none
  credit := credit
  recovery := 0
  overcurrent := 0

/-- R51. -/
def startDrive (dStart : Nat) : Drive where
  mode := .off
  dir := none
  profile := .normal
  target := dStart
  staged := dStart
  applied := 0
  silence := none
  brakeLimit := none

/-- R58. -/
def startGrant : Grant where
  held := false
  startCharge := 0
  runCharge := 0
  inBlanking := false
  charge := 0

/-- R64: before the first sample the supply value is 0 and the sag flag is set. -/
def startSupply : SupplyMonitor where
  value := 0
  history := []
  stepWindow := none
  sag := true
  cutCount := 0

/-- R84. -/
def startEstimator : Estimator where
  phase := none
  sampleNo := 0
  filter := none
  blankTimer := none
  readings := []
  newest := none

/-- R84: the temperature in use is 20 °C until a VEHICLE request gives one (R83). -/
def coldVehicle : VehicleData where
  speed := none
  speedTimer := none
  temp := 20
  tempKnown := false

/-- R85. -/
def coldBodyMotion : BodyMotion where
  rest := none
  dlev := 0
  limitCount := 0
  failed := false

/-- R102. -/
def startVerdictUnit : VerdictUnit where
  window := []
  decided := false
  stallTimer := none
  firstEdge := false
  newest := none

/-- R113: the result NONE. -/
def noRun : LastRun where
  outcome := .none
  failed := none
  startPos := 0
  cleanMask := 0
  updated := 0
  madeStale := 0
  madeEmpty := 0
  runCounter := 0

/-- R119: the profile of a channel at a cold start. -/
def coldProfile (zones : Zones) (runCounter : BitVec 16) : Profile where
  zones := zones
  runCounter := runCounter
  record := none
  lastRun := { noRun with runCounter := runCounter }

/-- R129. -/
def coldCounters : Counters where
  a := { value := 0, select := .closeRuns }
  b := { value := 0, select := .tripSamples }
  c := { value := 0, select := .hallInvalid }

/-- R125. -/
def coldLog : IncidentLog where
  ring := []
  nextTag := 0
  clock := 0

/-- R131: the tap starts off. -/
def startTap : Tap where
  channel := none
  phases := { closing := false, opening := false, reversing := false }
  skipped := 0

/-- R153: the parser in HUNT with its gap timer stopped. Its length, bytes and check are log entry 18's. -/
def huntParser : Parser where
  state := .hunt
  length := 0
  bytes := []
  crc := 0xFF
  gapTimer := none

/-- R145: the link counters at a cold start. -/
def coldLinkCounters : LinkCounters where
  framesOk := 0
  dropRunt := 0
  dropOversize := 0
  dropGap := 0
  dropLine := 0
  dropCheck := 0
  unknownKind := 0
  badLength := 0
  urgentLost := 0
  routineLost := 0

/-- R153. -/
def coldLink : Link where
  parser := huntParser
  urgent := []
  routine := []
  urgentRun := 0
  sending := none
  counters := coldLinkCounters

/-- A channel slice at a cold start with the settings, zones, run counter and parked position loaded (R161). -/
def coldSlice (cfg : ChannelSettings) (zones : Zones) (runCounter : BitVec 16) (hall : HallPair) (pos : Int × Bool) :
    Slice where
  cfg := cfg
  trk := coldTracker hall pos
  ctl := coldController cfg.creditMax
  drv := startDrive cfg.dStart
  arb := startGrant
  est := startEstimator
  vdu := startVerdictUnit
  prf := coldProfile zones runCounter
  ctr := coldCounters

/-- The content a cold start works from: the loaded section, or the fixed defaults when its check fails (R161). -/
def loadedContent (x : Section SettingsContent) : SettingsContent :=
  if x.checkGood then clampContent x.content else defaultContent

/-- An image in which no section has ever been written (R157, log entry 2). -/
def blankImage : Image where
  settings := { content := defaultContent, checkGood := false, wrong := 0 }
  park := { content := { positions := Octet.ofFn fun _ => 0, mark := false }, checkGood := false, wrong := 0 }

end Sys2Proof.Machine
end

