-- ==== Sys2Proof/Machine/Layout.lean ====
section
/-! DEFINITION. The byte layouts of 09_the_body_link.md section 9.6: the codes of the enumerations, the fields of a
payload, the CRC-8 of a frame (R143), the frames of every report (R148 to R150). -/

namespace Sys2Proof.Machine

/-! ### Fields, least significant byte first (R141) -/

/-- One byte. -/
def byteOf (n : Nat) : Byte := BitVec.ofNat 8 n

def u8 (n : Nat) : List Byte := [byteOf n]

def u16 (n : Nat) : List Byte := [byteOf n, byteOf (n / 256)]

def u32 (n : Nat) : List Byte := [byteOf n, byteOf (n / 256), byteOf (n / 65536), byteOf (n / 16777216)]

/-- A signed field of one byte, in two's complement. -/
def i8 (x : Int) : List Byte := u8 (x % 256).toNat

def i16 (x : Int) : List Byte := u16 (x % 65536).toNat

def i32 (x : Int) : List Byte := u32 (x % 4294967296).toNat

def flag (b : Bool) : List Byte := u8 (if b then 1 else 0)

/-- An enumeration that may be none: 0xFF when it is (R150). -/
def codeOrNone (x : Option Nat) : List Byte := u8 (x.getD 255)

/-- The number of a two-byte field as received. -/
def readU16 (lo hi : Byte) : Nat := lo.toNat + 256 * hi.toNat

/-- The signed number of a four-byte field as received. -/
def readI32 (b0 b1 b2 b3 : Byte) : Int :=
  let n := b0.toNat + 256 * b1.toNat + 65536 * b2.toNat + 16777216 * b3.toNat
  if n < 2147483648 then n else (n : Int) - 4294967296

/-- The signed number of a one-byte field as received. -/
def readI8 (b : Byte) : Int := b.toInt

/-- A set of eight flags as one byte, the member of index n at weight 2^n (R150). -/
def maskOf (o : Octet Bool) : Nat :=
  (if o.c0 then 1 else 0) + (if o.c1 then 2 else 0) + (if o.c2 then 4 else 0) + (if o.c3 then 8 else 0) +
  (if o.c4 then 16 else 0) + (if o.c5 then 32 else 0) + (if o.c6 then 64 else 0) + (if o.c7 then 128 else 0)

/-- The channels of a mask in ascending number: channel n in the bit of weight 2^n (R146). -/
def channelsOf (mask : Byte) : List Channel := (List.finRange 8).filter fun c => mask.getLsbD c.val

/-! ### Codes of the enumerations -/

def Source.code : Source → Nat
  | .driver => 0 | .codriver => 1 | .rearLeft => 2 | .rearRight => 3 | .roofConsole => 4 | .remote => 5 | .body => 6
  | .service => 7

/-- The index of a source in the permission table and the privileged set. -/
def Source.index : Source → Fin 8
  | .driver => 0 | .codriver => 1 | .rearLeft => 2 | .rearRight => 3 | .roofConsole => 4 | .remote => 5 | .body => 6
  | .service => 7

def sourceOfByte (b : Byte) : Option Source :=
  match b.toNat with
  | 0 => some .driver | 1 => some .codriver | 2 => some .rearLeft | 3 => some .rearRight | 4 => some .roofConsole
  | 5 => some .remote | 6 => some .body | 7 => some .service | _ => none

def Perm.code : Perm → Nat
  | .deny => 0 | .allow => 1 | .refer => 2

def permOfByte (b : Byte) : Option Perm :=
  match b.toNat with
  | 0 => some .deny | 1 => some .allow | 2 => some .refer | _ => none

def Dir.code : Dir → Nat
  | .closing => 0 | .opening => 1

def dirOfByte (b : Byte) : Option Dir :=
  match b.toNat with
  | 0 => some .closing | 1 => some .opening | _ => none

def MoveMode.code : MoveMode → Nat
  | .manual => 0 | .express => 1 | .target => 2

def moveModeOfByte (b : Byte) : Option MoveMode :=
  match b.toNat with
  | 0 => some .manual | 1 => some .express | 2 => some .target | _ => none

def IncidentMode.code : IncidentMode → Nat
  | .manual => 0 | .express => 1 | .target => 2 | .reversal => 3 | .none => 255

def Motion.code : Motion → Nat
  | .idle => 0 | .waiting => 1 | .closing => 2 | .opening => 3 | .reversing => 4 | .braking => 5 | .faulted => 6

def Phase.code : Phase → Nat
  | .closing => 0 | .opening => 1 | .reversing => 2

def IncidentKind.code : IncidentKind → Nat
  | .bandPinch => 0 | .stallPinch => 1 | .openObstruct => 2 | .desync => 3 | .hallFault => 4 | .overcurrent => 5
  | .supplyCut => 6

def SampleClass.code : SampleClass → Nat
  | .none => 0 | .low => 1 | .watch => 2 | .trip => 3

def CounterChoice.code : CounterChoice → Nat
  | .closeRuns => 0 | .openRuns => 1 | .bandReversals => 2 | .stallReversals => 3 | .samples => 4
  | .invalidSamples => 5 | .watchSamples => 6 | .tripSamples => 7 | .hallInvalid => 8 | .disturbedSamples => 9
  | .zoneUpdates => 10 | .thermalRefusals => 11

def counterChoiceOfByte (b : Byte) : Option CounterChoice :=
  match b.toNat with
  | 0 => some .closeRuns | 1 => some .openRuns | 2 => some .bandReversals | 3 => some .stallReversals
  | 4 => some .samples | 5 => some .invalidSamples | 6 => some .watchSamples | 7 => some .tripSamples
  | 8 => some .hallInvalid | 9 => some .disturbedSamples | 10 => some .zoneUpdates | 11 => some .thermalRefusals
  | _ => none

def ChangeKind.code : ChangeKind → Nat
  | .moveEnd => 0 | .held => 1 | .referenced => 2 | .fault => 3

def Reason.code : Reason → Nat
  | .targetReached => 0 | .closedEnd => 1 | .openEnd => 2 | .holdLapsed => 3 | .halted => 4 | .reversalDone => 5
  | .obstructed => 6 | .thermalLimit => 7 | .supplyCut => 8 | .desync => 9

def FaultKind.code : FaultKind → Nat
  | .hallFault => 4 | .overcurrent => 5

def Status.code : Status → Nat
  | .done => 0 | .started => 1 | .queued => 2 | .merged => 3 | .pending => 4 | .denied => 5 | .referred => 6
  | .refusedHeld => 7 | .refusedUnref => 8 | .refusedThermal => 9 | .refusedReversing => 10 | .refusedFault => 11
  | .locked => 12 | .busy => 13 | .malformed => 14 | .clamped => 15

def AfterBrake.code : AfterBrake → Nat
  | .goIdle => 0 | .reverse => 1 | .requeue => 2

def DriveMode.code : DriveMode → Nat
  | .off => 0 | .drive => 1 | .brake => 2

def ZoneState.code : ZoneState → Nat
  | .empty => 0 | .learned => 1 | .stale => 2

def RunOutcome.code : RunOutcome → Nat
  | .qualified => 0 | .notQualified => 1 | .abandoned => 2 | .discarded => 3 | .none => 255

def RunFailure.code : RunFailure → Nat
  | .notReferenced => 0 | .held => 1 | .verdict => 2 | .shortStart => 3

def OpKind.code : OpKind → Nat
  | .store => 0 | .park => 1 | .markClear => 2

/-! ### Request kinds (R146) -/

/-- The fourteen kinds of request. -/
inductive RequestKind where
  | move | halt | vehicle | ask | set | lock | permit | forget | clearFault | tap | countSelect | store | park | restart
  deriving DecidableEq, Repr, Inhabited

def RequestKind.code : RequestKind → Nat
  | .move => 1 | .halt => 2 | .vehicle => 3 | .ask => 4 | .set => 5 | .lock => 6 | .permit => 7 | .forget => 8
  | .clearFault => 9 | .tap => 10 | .countSelect => 11 | .store => 12 | .park => 13 | .restart => 14

def requestKindOfByte (b : Byte) : Option RequestKind :=
  match b.toNat with
  | 1 => some .move | 2 => some .halt | 3 => some .vehicle | 4 => some .ask | 5 => some .set | 6 => some .lock
  | 7 => some .permit | 8 => some .forget | 9 => some .clearFault | 10 => some .tap | 11 => some .countSelect
  | 12 => some .store | 13 => some .park | 14 => some .restart | _ => none

/-- The payload length the catalogue gives a kind (R146). -/
def payloadLength : RequestKind → Nat
  | .move => 7 | .halt => 3 | .vehicle => 4 | .ask => 6 | .set => 8 | .lock => 2 | .permit => 12 | .forget => 3
  | .clearFault => 3 | .tap => 5 | .countSelect => 5 | .store => 2 | .park => 2 | .restart => 2

/-- The class of the answer to a request of a kind (R151). -/
def answerClass : RequestKind → ReportClass
  | .move => .answerMove
  | .halt => .answerHalt
  | .vehicle | .ask | .set | .lock | .permit | .forget | .clearFault | .tap | .countSelect | .store | .park
  | .restart => .answerOther

/-! ### The check of a frame (R143) -/

/-- One shift of the running check, combining in 0x07 where the bit shifted out is 1. -/
def crc8Shift (x : Byte) : Byte := if x.msb then (x <<< 1) ^^^ 0x07 else x <<< 1

/-- The running check after one more byte. -/
def crc8Step (x b : Byte) : Byte :=
  crc8Shift (crc8Shift (crc8Shift (crc8Shift (crc8Shift (crc8Shift (crc8Shift (crc8Shift (x ^^^ b))))))))

/-- The check over a sequence of bytes, from 0xFF. -/
def crc8 (bs : List Byte) : Byte := bs.foldl crc8Step 0xFF

/-- A frame as it stands on the line (section 9.6, "Frame"). -/
def frameOf (kind : Byte) (payload : List Byte) : List Byte :=
  let body := byteOf (payload.length + 1) :: kind :: payload
  0x5A :: body ++ [crc8 body]

/-! ### Payloads of reports (section 9.6) -/

/-- The fields of an incident record, in the order of R121 and of section 9.6. -/
def incidentFields (r : Incident) : List (List Byte) :=
  [u16 r.tag.toNat, u32 r.time.toNat, u8 r.channel.val, u8 (IncidentKind.code r.kind), u8 (Motion.code r.motion),
   u8 (IncidentMode.code r.mode), codeOrNone (r.source.map Source.code), i16 r.position, u8 r.zone.val, u8 r.duty,
   u16 r.supply, i8 r.temp, u8 r.streak, flag r.held, u16 r.runCounter.toNat] ++
  (match r.pinch with
   | some g => [i16 g.firstHit, u16 g.reversalTarget]
   | none => []) ++
  (match r.band with
   | some g => [i16 g.residue, u16 g.tl, u8 (AggMode.code g.mode), u16 g.hitMask.toNat, u8 g.hitIndex, u8 g.validLength,
       u8 g.aDist, u8 g.aSupply, u8 g.aSpeed]
   | none => [])

/-- The record part of an ASK INCIDENT answer on an empty ring: its fields are sent, numbers as 0 and enumerations as 0xFF (R150; log entry
19), and its flag as clear (log entry 28). -/
def absentIncidentFields : List (List Byte) :=
  [u16 0, u32 0, u8 0, u8 255, u8 255, u8 255, u8 255, i16 0, u8 0, u8 0, u16 0, i8 0, u8 0, flag false, u16 0]

/-- The 11 bytes of a CHANGE payload. -/
def changePayload (n : Change) : List Byte :=
  u8 (ChangeKind.code n.kind) ++ u8 n.channel.val ++ u8 (Motion.code n.motion) ++ i16 n.position ++ flag n.referenced ++
  flag n.held ++ u8 n.streak ++ codeOrNone (n.reason.map Reason.code) ++ codeOrNone (n.fault.map FaultKind.code) ++
  codeOrNone (n.outcome.map Status.code)

/-- The 28 bytes of a TAPSAMPLE payload. -/
def tapPayload (s : Sample) (skipped : Nat) : List Byte :=
  u8 s.channel.val ++ u8 (Phase.code s.phase) ++ i16 s.position ++ u8 s.zone.val ++ u16 s.p ++ u16 s.i ++ u16 s.u ++
  u8 s.dty ++ u16 s.e ++ u16 s.f ++ u16 s.bEff ++ u16 s.allowance ++ i16 s.residue ++ u16 s.tl ++
  u8 (SampleClass.code s.cls) ++ u8 ((if s.valid then 1 else 0) + (if s.disturbed then 2 else 0)) ++ u16 skipped

/-- The 4 bytes of a STORED payload: the outcome is OK when no byte differs (R158). -/
def storedPayload (op : OpKind) (mismatch : Nat) : List Byte :=
  u8 (OpKind.code op) ++ u8 (if mismatch = 0 then 0 else 1) ++ u16 mismatch

/-- Fields cut into segments of at most 42 content bytes, each field whole (R148, R150). `done` is the open segment. -/
def segmentsFrom (done : List Byte) : List (List Byte) → List (List Byte)
  | [] => [done]
  | f :: fs => if done.length + f.length ≤ 42 then segmentsFrom (done ++ f) fs else done :: segmentsFrom f fs

/-- The segments of an answer's content; an answer with no content has one. -/
def segments (fields : List (List Byte)) : List (List Byte) := segmentsFrom [] fields

/-- The payloads of the frames of a report, in the order sent (R148, section 9.6). -/
def reportPayloads : Report → List (List Byte)
  | .answer tag kind status content =>
    let segs := segments content
    segs.mapIdx fun i seg => [tag, kind, byteOf (Status.code status), byteOf i, byteOf segs.length] ++ seg
  | .incident r => [(incidentFields r).flatten]
  | .change n => [changePayload n]
  | .refer tag kind source mask content => [[tag, kind, source, mask] ++ content]
  | .tapSample s skipped => [tapPayload s skipped]
  | .stored op mismatch => [storedPayload op mismatch]

/-- The kind code of a report (R149). -/
def reportCode : Report → Byte
  | .answer .. => 0x81
  | .incident _ => 0x82
  | .change _ => 0x83
  | .refer .. => 0x84
  | .tapSample .. => 0x85
  | .stored .. => 0x86

/-- What a report puts on LTX: its frames back to back (R141, R152). -/
def reportBytes (r : Report) : List Byte :=
  ((reportPayloads r).map (frameOf (reportCode r))).flatten

/-- How long a report takes on the line, in µs: (n + 4) × 10 for a frame with n payload bytes (R152). -/
def sendMicros (r : Report) : Nat := ((reportPayloads r).map fun p => (p.length + 4) * 10).sum

/-! ### The output pins of a drive unit (R46) -/

/-- The levels of the bridge lines DA and DB. -/
def bridgeLines (d : Drive) : Bool × Bool :=
  match d.mode, d.dir with
  | .off, _ => (false, false)
  | .drive, some .closing => (true, false)
  | .drive, some .opening => (false, true)
  | .drive, none => (false, false)
  | .brake, _ => (true, true)

/-- The duty of the PW line in 255ths of a period: the applied duty in DRIVE, and low otherwise (R46, R47). -/
def pwmDuty (d : Drive) : Nat :=
  match d.mode with
  | .drive => d.applied
  | .off | .brake => 0

end Sys2Proof.Machine
end

