-- ==== Sys2Proof/Machine/State.lean ====
section
/-! DEFINITION. The state of the part, why a step can stop, and the state after reset. -/

namespace Sys2Proof.Machine

/-- Everything the part holds, the commands that wait, and two fields of the model's own (`freeCount`, `pending`). -/
structure State where
  /-- R63: held at its start, or operating. -/
  power     : Power
  /-- R1: the shared time base in µs. -/
  timeBase  : BitVec 32
  /-- The Hall and current-sense inputs as they now stand. -/
  pins      : Octet Pins
  /-- The eight channel slices. -/
  ch        : Octet Slice
  /-- The global settings in force (R154). -/
  globals   : GlobalSettings
  /-- The start queue, oldest first (R52). -/
  queue     : List QueueEntry
  /-- The supply monitor (section 3.3). -/
  supply    : SupplyMonitor
  /-- The body motion monitor (section 4.4). -/
  motion    : BodyMotion
  /-- The vehicle data (section 4.1). -/
  vehicle   : VehicleData
  /-- The incident log (section 7.1). -/
  log       : IncidentLog
  /-- The sample tap (section 7.5). -/
  tap       : Tap
  /-- The permission table, by source code and then by channel (R133). -/
  perms     : Octet (Octet Perm)
  /-- The privileged set, by source code (R133). -/
  priv      : Octet Bool
  /-- The body link interface (Chapter 9). -/
  link      : Link
  /-- The settings store and the non-volatile image (Chapter 10). -/
  store     : Store
  /-- The MODEL's own: how many free values have been drawn (log entry 3). -/
  freeCount : Nat
  /-- The MODEL's own: the commands that wait, first in, first out (log entry 1). -/
  pending   : List Instr
  deriving DecidableEq, Repr

/-- Why the part itself stops: nothing does. The spec gives every command its effect in every state, so no step ends in a
fault and the type has no constructor. -/
inductive Fault where
  deriving DecidableEq, Repr

/-- Why the model answers no next state. -/
inductive Refusal where
  /-- Raised by `exec` alone, for a row that has no meaning yet. Safe: nothing is claimed about such a step. No arm raises it now. -/
  | notModelled (mnemonic : String)
  deriving DecidableEq, Repr

/-- The machine right after reset: the state in which a cold start leaves a part whose image has never been written (R161,
log entry 2): fixed defaults, every channel at position 0 and unreferenced, Hall inputs and current sense at 0. -/
def State.reset : State where
  power := .running
  timeBase := 0
  pins := Octet.ofFn fun _ => { hall := { a := false, b := false }, current := 0 }
  ch := Octet.ofFn fun c =>
    coldSlice (defaultChannelSettings c) emptyZones 0 { a := false, b := false } (0, false)
  globals := defaultGlobalSettings
  queue := []
  supply := startSupply
  motion := coldBodyMotion
  vehicle := coldVehicle
  log := coldLog
  tap := startTap
  perms := defaultPerms
  priv := defaultPriv
  link := coldLink
  store :=
    { locked := false, op := none, markStanding := false, clearDue := false, image := blankImage }
  freeCount := 0
  pending := []

end Sys2Proof.Machine
end

