-- ==== Sys2Proof/Machine/Ops.lean ====
section
/-! DEFINITION. The named operations every block uses: reading and writing a channel slice, counting an event (R126),
queueing a report and choosing the next one to send (R151, R152), submitting an incident (R120) and queueing CHANGE
notices (R44). -/

namespace Sys2Proof.Machine

/-! ### Channel slices -/

/-- The slice of a channel. -/
def State.slice (s : State) (c : Channel) : Slice := s.ch.get c

/-- `s` with the slice of a channel passed through `f`. -/
def State.modSlice (s : State) (c : Channel) (f : Slice → Slice) : State := { s with ch := s.ch.modify c f }

def State.modCfg (s : State) (c : Channel) (f : ChannelSettings → ChannelSettings) : State :=
  s.modSlice c fun sl => { sl with cfg := f sl.cfg }

def State.modTrk (s : State) (c : Channel) (f : Tracker → Tracker) : State :=
  s.modSlice c fun sl => { sl with trk := f sl.trk }

def State.modCtl (s : State) (c : Channel) (f : Controller → Controller) : State :=
  s.modSlice c fun sl => { sl with ctl := f sl.ctl }

def State.modDrv (s : State) (c : Channel) (f : Drive → Drive) : State :=
  s.modSlice c fun sl => { sl with drv := f sl.drv }

def State.modArb (s : State) (c : Channel) (f : Grant → Grant) : State :=
  s.modSlice c fun sl => { sl with arb := f sl.arb }

def State.modEst (s : State) (c : Channel) (f : Estimator → Estimator) : State :=
  s.modSlice c fun sl => { sl with est := f sl.est }

def State.modVdu (s : State) (c : Channel) (f : VerdictUnit → VerdictUnit) : State :=
  s.modSlice c fun sl => { sl with vdu := f sl.vdu }

def State.modPrf (s : State) (c : Channel) (f : Profile → Profile) : State :=
  s.modSlice c fun sl => { sl with prf := f sl.prf }

def State.modCtr (s : State) (c : Channel) (f : Counters → Counters) : State :=
  s.modSlice c fun sl => { sl with ctr := f sl.ctr }

def State.modLink (s : State) (f : Link → Link) : State := { s with link := f s.link }

def State.modCounters (s : State) (f : LinkCounters → LinkCounters) : State :=
  s.modLink fun l => { l with counters := f l.counters }

def State.modStore (s : State) (f : Store → Store) : State := { s with store := f s.store }

/-- The temperature in use (R83): the held one, 20 °C while none has been given. -/
def State.temperature (s : State) : Int := s.vehicle.temp

/-! ### Zones (R13) -/

/-- The zone of a position: position × 64 / TRAVEL, rounded down and clamped to 0..63. -/
def zoneOf (travel : Nat) (position : Int) : Fin 64 :=
  let q := position * 64 / (travel : Int)
  if q < 0 then 0 else if h : q < 64 then ⟨q.toNat, by omega⟩ else 63

/-- The lowest non-negative position that `zoneOf` places in a zone (R109): TRAVEL × z / 64 rounded up. -/
def zoneStart (travel : Nat) (z : Fin 64) : Nat := (z.val * travel + 63) / 64

/-! ### The counter bank (R126) -/

/-- A counter after `n` events of one choice: raised by `n` when its select names them, wrapping at 2^32. -/
def Counter.count (k : Counter) (ev : CounterChoice) (n : Nat) : Counter :=
  if k.select = ev then { k with value := k.value + BitVec.ofNat 32 n } else k

/-- `n` events of one choice on a channel. Each choice belongs to one counter, so a select never names another's. -/
def State.countEvents (s : State) (c : Channel) (ev : CounterChoice) (n : Nat) : State :=
  s.modCtr c fun k =>
    match ev with
    | .closeRuns | .openRuns | .bandReversals | .stallReversals => { k with a := k.a.count ev n }
    | .samples | .invalidSamples | .watchSamples | .tripSamples => { k with b := k.b.count ev n }
    | .hallInvalid | .disturbedSamples | .zoneUpdates | .thermalRefusals => { k with c := k.c.count ev n }

/-- One event of a channel. -/
def State.countEvent (s : State) (c : Channel) (ev : CounterChoice) : State := s.countEvents c ev 1

/-! ### The report queues and the transmitter (R151, R152) -/

/-- The URGENT queue holds at most 16 reports. -/
def urgentCapacity : Nat := 16

/-- The ROUTINE queue holds at most 24 reports. -/
def routineCapacity : Nat := 24

/-- Whether a class of report is urgent under URGENT_KINDS (R151). -/
def isUrgent (kinds : BitVec 6) : ReportClass → Bool
  | .incident => true
  | .tapSample => false
  | .answerMove => kinds.getLsbD 0
  | .answerHalt => kinds.getLsbD 1
  | .answerOther => kinds.getLsbD 2
  | .change => kinds.getLsbD 3
  | .refer => kinds.getLsbD 4
  | .stored => kinds.getLsbD 5

/-- Whether an urgent run lets the next urgent report go ahead of a waiting routine one (R152). -/
def belowWeight (w : Weight) (run : Nat) : Bool :=
  match w with
  | .strict => true
  | .four => run < 4
  | .eight => run < 8
  | .sixteen => run < 16

/-- The transmitter's choice (R152): while it is idle and a queue holds a report, the next one leaves its queue and is sent. -/
def Link.choose (w : Weight) (l : Link) : Link :=
  match l.sending with
  | some _ => l
  | none =>
    match l.urgent, l.routine with
    | [], [] => l
    | u :: us, [] => { l with urgent := us, sending := some u, urgentRun := min 255 (l.urgentRun + 1) }
    | [], r :: rs => { l with routine := rs, sending := some r, urgentRun := 0 }
    | u :: us, r :: rs =>
      if belowWeight w l.urgentRun then
        { l with urgent := us, sending := some u, urgentRun := min 255 (l.urgentRun + 1) }
      else { l with routine := rs, sending := some r, urgentRun := 0 }

/-- A classified report joins the tail of its queue, or is discarded and counted when the queue is full (R151). -/
def Link.join (urgent : Bool) (r : Report) (l : Link) : Link :=
  if urgent then
    if l.urgent.length < urgentCapacity then { l with urgent := l.urgent ++ [r] }
    else { l with counters := { l.counters with urgentLost := l.counters.urgentLost + 1 } }
  else if l.routine.length < routineCapacity then { l with routine := l.routine ++ [r] }
  else { l with counters := { l.counters with routineLost := l.counters.routineLost + 1 } }

/-- A report is classified and queued; an idle transmitter chooses at once (R151, R152). -/
def State.queueReport (s : State) (cls : ReportClass) (r : Report) : State :=
  s.modLink fun l => (l.join (isUrgent s.globals.urgentKinds cls) r).choose s.globals.wrr

/-! ### Answers (R148) -/

/-- The ANSWER to a request of a kind, under its own class. -/
def State.answer (s : State) (tag : Byte) (k : RequestKind) (st : Status) (content : List (List Byte)) : State :=
  s.queueReport (answerClass k) (.answer tag (byteOf k.code) st content)

/-- An answer whose content is empty. -/
def State.answerPlain (s : State) (tag : Byte) (k : RequestKind) (st : Status) : State := s.answer tag k st []

/-- An answer of status CLAMPED, carrying the value as taken in four bytes (section 9.6). -/
def State.answerClamped (s : State) (tag : Byte) (k : RequestKind) (taken : Int) : State :=
  s.answer tag k .clamped [i32 taken]

/-! ### Incidents (R120 to R123) -/

/-- The move mode and source an incident of a channel carries, as the channel is found (R121). -/
def incidentMode (t : Controller) : IncidentMode × Option Source :=
  if t.reversalOpen then (.reversal, none)
  else
    match t.motion, t.move with
    | .waiting, some m | .closing, some m | .opening, some m =>
      (match m.mode with | .manual => .manual | .express => .express | .target => .target, some m.source)
    | _, _ => (.none, none)

/-- The record of an incident of a kind as its channel is now found, with no optional group. Its tag and time are given
by the log when it is submitted. -/
def State.incidentNow (s : State) (c : Channel) (k : IncidentKind) : Incident :=
  let sl := s.slice c
  { tag := 0
    time := 0
    channel := c
    kind := k
    motion := sl.ctl.motion
    mode := (incidentMode sl.ctl).1
    source := (incidentMode sl.ctl).2
    position := sl.trk.position
    zone := zoneOf sl.cfg.travel sl.trk.position
    duty := sl.drv.applied
    supply := s.supply.value
    temp := s.temperature
    streak := sl.ctl.streak
    held := sl.ctl.held
    runCounter := sl.prf.runCounter
    pinch := none
    band := none }

/-- The ring after a record has joined it: at most 32 records (R120). -/
def ringPush (ring : List Incident) (r : Incident) : List Incident :=
  let l := ring ++ [r]
  if 32 < l.length then l.drop 1 else l

/-- A submission taken by the log, in the four steps of R120. -/
def State.submit (s : State) (r : Incident) : State :=
  let r' := { r with tag := s.log.nextTag, time := s.log.clock }
  let s' := { s with log := { s.log with ring := ringPush s.log.ring r', nextTag := s.log.nextTag + 1 } }
  s'.queueReport .incident (.incident r')

/-! ### CHANGE notices (R44) -/

/-- The notice of a change of a channel, as the channel now stands. -/
def State.changeOf (s : State) (c : Channel) (k : ChangeKind) (reason : Option Reason) (fault : Option FaultKind)
    (outcome : Option Status) : Report :=
  let sl := s.slice c
  .change
    { kind := k
      channel := c
      motion := sl.ctl.motion
      position := sl.trk.position
      referenced := sl.trk.referenced
      held := sl.ctl.held
      streak := sl.ctl.streak
      reason := reason
      fault := fault
      outcome := outcome }

def State.noticeMoveEnd (s : State) (c : Channel) (reason : Option Reason) (outcome : Option Status) : State :=
  s.queueReport .change (s.changeOf c .moveEnd reason none outcome)

/-- A HELD notice where the flag has changed. -/
def State.noticeHeld (s : State) (c : Channel) (changed : Bool) : State :=
  if changed then s.queueReport .change (s.changeOf c .held none none none) else s

/-- A REFERENCED notice where the flag has changed. -/
def State.noticeReferenced (s : State) (c : Channel) (changed : Bool) : State :=
  if changed then s.queueReport .change (s.changeOf c .referenced none none none) else s

def State.noticeFault (s : State) (c : Channel) (fault : Option FaultKind) : State :=
  s.queueReport .change (s.changeOf c .fault none fault none)

/-! ### The park mark (R160) -/

/-- A grant, or a valid count: while the park mark stands it makes the mark due to be cleared. -/
def State.noteMovement (s : State) : State :=
  if s.store.markStanding then s.modStore fun t => { t with clearDue := true } else s

end Sys2Proof.Machine
end

