-- ==== Sys2Proof/Machine/DriveUnit.lean ====
section
/-! DEFINITION. The drive unit (section 3.1): its three orders (R46), the double-buffered duty (R47), the duty profile
(R48, R49), and braking (R50). -/

namespace Sys2Proof.Machine

/-- Staged and applied duties lie within 64..255 (R47). -/
def clampDuty (n : Nat) : Nat := clampNat 64 255 n

/-- The duty target of a drive (R48, R49): D_INCH for INCH. For NORMAL D_RUN, or the smaller of D_SEAL and D_RUN on a referenced
close at or below SEAL_BAND + SLOW_BAND. -/
def dutyTarget (cfg : ChannelSettings) (profile : DutyProfile) (dir : Option Dir) (referenced : Bool) (position : Int) :
    Nat :=
  match profile, dir with
  | .inch, _ => clampDuty cfg.dInch
  | .normal, some .closing =>
    if referenced ∧ position ≤ (cfg.sealBand + cfg.slowBand : Nat) then clampDuty (min cfg.dSeal cfg.dRun)
    else clampDuty cfg.dRun
  | .normal, _ => clampDuty cfg.dRun

/-- The order DRIVE (R46, R48): carried out from OFF and from BRAKE. -/
def Drive.orderDrive (d : Drive) (cfg : ChannelSettings) (dir : Dir) (profile : DutyProfile) (referenced : Bool)
    (position : Int) : Drive :=
  match d.mode with
  | .drive => d
  | .off | .brake =>
    let target := dutyTarget cfg profile (some dir) referenced position
    let staged := clampDuty (min cfg.dStart target)
    { mode := .drive
      dir := some dir
      profile := profile
      target := target
      staged := staged
      applied := staged
      silence := none
      brakeLimit := none }

/-- The order BRAKE (R46, R47, R50): carried out from DRIVE. -/
def Drive.orderBrake (d : Drive) : Drive :=
  match d.mode with
  | .drive => { d with mode := .brake, applied := 0, silence := some 10, brakeLimit := some 150 }
  | .off | .brake => d

/-- The order OFF (R46). -/
def Drive.orderOff (d : Drive) : Drive :=
  match d.mode with
  | .off => d
  | .drive | .brake => { d with mode := .off, dir := none, applied := 0, silence := none, brakeLimit := none }

/-- The duty target settled again while driving (R48, R49, log entry 16): a target below the staged duty lowers it at once. -/
def Drive.resettle (d : Drive) (cfg : ChannelSettings) (referenced : Bool) (position : Int) : Drive :=
  match d.mode with
  | .drive =>
    let target := dutyTarget cfg d.profile d.dir referenced position
    { d with target := target, staged := min d.staged target }
  | .off | .brake => d

/-- An edge reaches the drive unit (R8): the silence timer restarts in BRAKE (R50), the target is settled in DRIVE (R49). -/
def Drive.edge (d : Drive) (cfg : ChannelSettings) (referenced : Bool) (position : Int) : Drive :=
  match d.mode with
  | .brake => { d with silence := some 10 }
  | .drive => d.resettle cfg referenced position
  | .off => d

/-- One ms of the ramp (R48): a staged duty below the target is raised by RAMP, to no more than the target. -/
def Drive.rampTick (d : Drive) (cfg : ChannelSettings) (referenced : Bool) (position : Int) : Drive :=
  match d.mode with
  | .drive =>
    let d' := d.resettle cfg referenced position
    if d'.staged < d'.target then { d' with staged := min d'.target (clampDuty (d'.staged + cfg.ramp)) } else d'
  | .off | .brake => d

/-- A PWM period boundary (R47): the applied duty takes the staged duty while the mode is DRIVE. -/
def Drive.boundary (d : Drive) : Drive :=
  match d.mode with
  | .drive => { d with applied := d.staged }
  | .off | .brake => d

/-- Brake quiet (R50): both timers stop, the mode stays BRAKE until the controller's next order. -/
def Drive.quiet (d : Drive) : Drive := { d with silence := none, brakeLimit := none }

end Sys2Proof.Machine
end

