-- ==== Sys2Proof/Machine/Effort.lean ====
section
/-! DEFINITION. The effort estimate (04_the_effort_estimate.md): the current accumulator (R69), the six stages of a sample
(R71 to R76), the sample an edge forms (R67, R70, R77), and the body motion monitor's arithmetic (R78 to R80). -/

namespace Sys2Proof.Machine

/-! ### The current accumulator (R69) -/

/-- The newest `budget` µs of runs listed newest first. -/
def takeMicros : Nat → List (Nat × Nat) → List (Nat × Nat)
  | _, [] => []
  | budget, (mA, n) :: rest =>
    if budget = 0 then []
    else if budget ≤ n then [(mA, budget)]
    else (mA, n) :: takeMicros (budget - n) rest

/-- `n` more µs of one reading, joined to the newest run when it has the same reading. -/
def pushReading (mA n : Nat) (runs : List (Nat × Nat)) : List (Nat × Nat) :=
  match runs with
  | [] => [(mA, n)]
  | (mA', n') :: rest => if mA' = mA then (mA, n' + n) :: rest else (mA, n) :: (mA', n') :: rest

/-- The current sense saturates at 40 000 mA. -/
def senseLimit (mA : Nat) : Nat := min 40000 mA

/-- The accumulator after `micros` µs with one reading: at most the most recent 65 535 µs are kept. -/
def accumulate (mA micros : Nat) (runs : List (Nat × Nat)) : List (Nat × Nat) :=
  if micros = 0 then runs else takeMicros 65535 (pushReading mA micros runs)

def readingsSum (runs : List (Nat × Nat)) : Nat := (runs.map fun r => r.1 * r.2).sum

def readingsMicros (runs : List (Nat × Nat)) : Nat := (runs.map fun r => r.2).sum

/-- The mean of the readings since the last restart, rounded down; the reading of the µs itself when none has been added. -/
def meanCurrent (now : Nat) (runs : List (Nat × Nat)) : Nat :=
  if readingsMicros runs = 0 then now else readingsSum runs / readingsMicros runs

/-! ### The six stages -/

/-- Stage 1 (R71): p × u × dty / 3 442 500 rounded half up, clamped to 0..65 535. -/
def normPeriod (p u dty : Nat) : Nat := min 65535 ((p * u * dty + 1721250) / 3442500)

/-- Stage 2 (R72): (i × CI + pn × CP) / 256 rounded down, saturated at 32 767. -/
def effort (ci cp i pn : Nat) : Nat := min 32767 ((i * ci + pn * cp) / 256)

/-- Stage 3 (R73): the seed at the first sample, then a step of d / 2^S rounded toward zero. -/
def filtered (shift : Nat) (prev : Option Nat) (e : Nat) : Nat :=
  match prev with
  | none => e
  | some f => ((f : Int) + Int.tdiv ((e : Int) - f) (2 ^ shift : Nat)).toNat

/-- The temperature term of stage 4: (from − T) × KT / 16 rounded down where T is known and below `ref` (R74). -/
def tempTerm (kt : Nat) (known : Bool) (t ref : Int) : Nat :=
  if known && decide (t < ref) then ((ref - t).toNat * kt) / 16 else 0

/-- Stage 4 (R74): the effective baseline. -/
def effBaseline (bDefault kt : Nat) (z : ZoneRecord) (known : Bool) (t : Int) : Nat :=
  match z.state with
  | .learned | .stale => min 32767 (z.baseline + tempTerm kt known t z.tz)
  | .empty => min 32767 (bDefault + tempTerm kt known t 20)

/-- Stage 5 (R75): the disturbance allowance. -/
def distAllowance (kd dMax dlev : Nat) : Nat := min dMax (dlev * kd / 64)

/-- Stage 5 (R75): the supply allowance. -/
def supplyAllowance (aStep : Nat) (stepOpen : Bool) : Nat := if stepOpen then aStep else 0

/-- Stage 5 (R75): the speed allowance, for a ROOF_PANEL channel while the speed is known. -/
def speedAllowance (kv vMax : Nat) (kind : Kind) (speed : Option Nat) : Nat :=
  match kind, speed with
  | .roofPanel, some v => min vMax (v * kv / 16)
  | _, _ => 0

/-- Stage 6 (R76): the residue. -/
def residueOf (f bEff : Nat) : Int := (f : Int) - bEff

/-! ### Forming a sample -/

/-- The edge record the tracker hands on (R8). `dir` is none for an invalid transition. -/
structure Edge where
  stamp      : BitVec 32
  period     : Nat
  dir        : Option Dir
  position   : Int
  zone       : Fin 64
  referenced : Bool
  deriving DecidableEq, Repr

/-- The direction in which a phase is driven (R66). -/
def Phase.dir : Phase → Dir
  | .closing => .closing
  | .opening => .opening
  | .reversing => .opening

/-- Whether an edge forms a sample (R67): a phase runs, the count is valid and in its direction. -/
def formsSample (phase : Option Phase) (dir : Option Dir) : Option Phase :=
  match phase, dir with
  | some ph, some d => if Phase.dir ph = d then some ph else none
  | _, _ => none

/-- The sample an edge of a channel forms in a phase, before the verdict unit completes it (R70, R77). -/
def State.formSample (s : State) (c : Channel) (ph : Phase) (e : Edge) : Sample :=
  let sl := s.slice c
  let g := s.globals
  let cfg := sl.cfg
  let number := min 65535 (sl.est.sampleNo + 1)
  let first := decide (sl.est.sampleNo = 0)
  let i := meanCurrent (s.pins.get c).current sl.est.readings
  let u := s.supply.value
  let dty := sl.drv.applied
  let z := sl.prf.zones[e.zone]
  let t := s.temperature
  let pn := normPeriod e.period u dty
  let eff := effort cfg.ci cfg.cp i pn
  let f := filtered cfg.filterShift (if first then none else sl.est.filter) eff
  let b := effBaseline cfg.bDefault cfg.kt z s.vehicle.tempKnown t
  let aDist := distAllowance g.kd g.dMax s.motion.dlev
  let aSupply := supplyAllowance g.aStep s.supply.stepWindow.isSome
  let aSpeed := speedAllowance g.kv g.vMax cfg.kind s.vehicle.speed
  { channel := c
    phase := ph
    number := number
    first := first
    stamp := e.stamp
    position := e.position
    zone := e.zone
    referenced := e.referenced
    p := e.period
    i := i
    u := u
    dty := dty
    temp := t
    tempKnown := s.vehicle.tempKnown
    speed := s.vehicle.speed
    dlev := s.motion.dlev
    stepOpen := s.supply.stepWindow.isSome
    record := z
    pn := pn
    e := eff
    f := f
    bEff := b
    aDist := aDist
    aSupply := aSupply
    aSpeed := aSpeed
    allowance := aDist + aSupply + aSpeed
    residue := residueOf f b
    tl := 0
    wl := 0
    cls := .none
    valid := false
    disturbed := false }

/-- The estimator after a sample: its number, its filter state and the newest figures (R67, R73, R77). -/
def Estimator.afterSample (e : Estimator) (x : Sample) : Estimator :=
  { e with
    sampleNo := x.number
    filter := some x.f
    newest := some { f := x.f, bEff := x.bEff, allowance := x.allowance, residue := x.residue } }

/-! ### The body motion monitor (R78 to R80) -/

/-- The acceleration saturates at −8 000 and 8 000 mg (R78). -/
def accelLimit (a : Int) : Int := clampInt (-8000) 8000 a

/-- The disturbance level after a deviation (R79). -/
def disturbanceAfter (dDecay dlev deviation : Nat) : Nat := min 4000 (max deviation (dlev - dDecay))

/-- A sample taken through the steps of R78. -/
def BodyMotion.ordinary (m : BodyMotion) (dDecay : Nat) (a : Int) : BodyMotion :=
  match m.rest with
  | none => { m with rest := some a }
  | some r =>
    { m with
      dlev := disturbanceAfter dDecay m.dlev (a - r).natAbs
      rest := some (r + Int.tdiv (a - r) 256) }

/-- A sample of the acceleration: the failure test of R80, then R78 unless the sensor is failed. -/
def BodyMotion.sample (m : BodyMotion) (dDecay : Nat) (raw : Int) : BodyMotion :=
  let a := accelLimit raw
  if a = -8000 ∨ a = 8000 then
    let n := min 50 (m.limitCount + 1)
    if n = 50 then { m with limitCount := n, failed := true, dlev := 0 }
    else { m with limitCount := n }.ordinary dDecay a
  else { m with limitCount := 0, failed := false }.ordinary dDecay a

end Sys2Proof.Machine
end

