-- ==== Sys2Proof/Machine/Verdict.lean ====
section
/-! DEFINITION. The verdict (05_the_verdict.md): levels and class (R87, R88), validity (R89), the disturbed mark (R90), the
decision window (R91), the three aggregation tests (R92 to R95) and the verdict record (R96). -/

namespace Sys2Proof.Machine

/-- The margin of a zone's state (R87). -/
def zoneMargin (cfg : ChannelSettings) : ZoneState → Nat
  | .empty => cfg.mEmpty
  | .stale => cfg.mStale
  | .learned => 0

/-- The spread a sample counts: 0 for an EMPTY record (R87). -/
def zoneSpread (z : ZoneRecord) : Nat :=
  match z.state with
  | .empty => 0
  | .learned | .stale => z.spread

/-- The trip level (R87). -/
def tripLevel (cfg : ChannelSettings) (z : ZoneRecord) (held : Bool) (allowance : Nat) : Nat :=
  min cfg.tCeil
    (cfg.tBase + 2 * zoneSpread z + (zoneMargin cfg z.state + (if held then cfg.mHeld else 0)) + allowance)

/-- The watch level (R88). -/
def watchLevel (tl : Nat) : Nat := tl * 5 / 8

/-- The class of a sample (R88): only a CLOSING sample is classed. -/
def classOf (ph : Phase) (residue : Int) (tl : Nat) : SampleClass :=
  match ph with
  | .closing => if (tl : Int) ≤ residue then .trip else if (watchLevel tl : Int) ≤ residue then .watch else .low
  | .opening | .reversing => .none

/-- The valid tag (R89). -/
def validTag (cfg : ChannelSettings) (x : Sample) : Bool :=
  decide (cfg.blank < x.number) && !x.first && decide ((cfg.sealBand : Int) < x.position) && x.referenced

/-- A sample completed by steps 1 to 3 of R86. The disturbed mark is R90's test alone: with D_ROUGH 0 it is set while the sensor is failed
too, of which R80 and R90 also say that no sample is disturbed (log entry 27). -/
def completeSample (cfg : ChannelSettings) (dRough : Nat) (held : Bool) (x : Sample) : Sample :=
  let tl := tripLevel cfg x.record held x.allowance
  { x with
    tl := tl
    wl := watchLevel tl
    cls := classOf x.phase x.residue tl
    valid := validTag cfg x
    disturbed := dRough ≤ x.dlev }

/-- The slot of a completed sample (R91). -/
def slotOf (x : Sample) : Slot :=
  { position := x.position, residue := x.residue, tl := x.tl, cls := x.cls, valid := x.valid }

/-- The window after a slot has joined at age 0 (R91). -/
def windowPush (winLen : Nat) (w : List Slot) (x : Slot) : List Slot := (x :: w).take winLen

/-- A slot that is valid and classed TRIP. -/
def Slot.isHit (x : Slot) : Bool := x.valid && decide (x.cls = .trip)

/-- A slot that RISE accepts: valid and classed WATCH or TRIP (R95). -/
def Slot.isRise (x : Slot) : Bool := x.valid && (decide (x.cls = .watch) || decide (x.cls = .trip))

/-- The residues do not fall from an age to the younger one before it (R95). -/
def risingSlots : List Slot → Bool
  | x :: y :: rest => decide (y.residue ≤ x.residue) && risingSlots (y :: rest)
  | _ => true

/-- The ages of the slots that are hits, counted from `age`. -/
def hitAges (age : Nat) : List Slot → List Nat
  | [] => []
  | x :: rest => if x.isHit then age :: hitAges (age + 1) rest else hitAges (age + 1) rest

/-- The hit set of a mode when its test succeeds on a window (R93 to R95). -/
def hitSet (mode : AggMode) (k : Nat) (w : List Slot) : Option (List Nat) :=
  match mode with
  | .run => if k ≤ w.length ∧ (w.take k).all Slot.isHit then some (List.range k) else none
  | .count => if k ≤ (hitAges 0 w).length then some (hitAges 0 w) else none
  | .rise =>
    if k ≤ w.length ∧ (w.take k).all Slot.isRise ∧ risingSlots (w.take k) then some (List.range k) else none

/-- The hit mask: the flag of age j at weight 2^j (R96). -/
def hitMaskOf (ages : List Nat) : BitVec 16 := ages.foldl (fun m j => m ||| (1 <<< j)) 0

/-- The highest age of a hit set (R96). -/
def hitIndexOf (ages : List Nat) : Nat := ages.foldl max 0

/-- The number of valid slots (R96). -/
def validLength (w : List Slot) : Nat := (w.filter fun x => x.valid).length

/-- The band verdict, if one is taken, at a completed sample that has just entered the window (R92, R96). -/
def bandVerdict (cfg : ChannelSettings) (decided : Bool) (w : List Slot) (x : Sample) : Option Verdict :=
  if x.phase = .closing ∧ decided = false ∧ (slotOf x).isHit then
    match hitSet cfg.mode cfg.k w with
    | none => none
    | some ages =>
      let idx := hitIndexOf ages
      some
        { channel := x.channel
          phase := x.phase
          number := x.number
          position := x.position
          residue := x.residue
          tl := x.tl
          mode := cfg.mode
          hitMask := hitMaskOf ages
          hitIndex := idx
          validLength := validLength w
          firstHit := ((w[idx]?).map Slot.position).getD x.position
          aDist := x.aDist
          aSupply := x.aSupply
          aSpeed := x.aSpeed
          dty := x.dty
          u := x.u }
  else none

/-- The verdict unit after a completed sample: steps 4 to 6 of R86. -/
def VerdictUnit.afterSample (v : VerdictUnit) (cfg : ChannelSettings) (x : Sample) : VerdictUnit × Option Verdict :=
  let w := windowPush cfg.winLen v.window (slotOf x)
  let r := bandVerdict cfg v.decided w x
  ({ v with
     window := w
     decided := v.decided || r.isSome
     newest := some { tl := x.tl, wl := x.wl, cls := x.cls, valid := x.valid, disturbed := x.disturbed } }, r)

/-- The verdict unit at the start of a drive phase (R91, R98). -/
def VerdictUnit.startPhase (v : VerdictUnit) (startStallMs : Nat) : VerdictUnit :=
  { v with window := [], decided := false, stallTimer := some startStallMs, firstEdge := false, newest := none }

/-- The verdict unit at the end of a drive phase (R91, R98). -/
def VerdictUnit.endPhase (v : VerdictUnit) : VerdictUnit :=
  { v with window := [], decided := false, stallTimer := none, firstEdge := false, newest := none }

/-- An edge reaches the stall timer (R98): a running timer restarts at STALL_MS. -/
def VerdictUnit.edge (v : VerdictUnit) (stallMs : Nat) : VerdictUnit :=
  match v.stallTimer with
  | some _ => { v with stallTimer := some stallMs, firstEdge := true }
  | none => v

end Sys2Proof.Machine
end

