-- ==== Sys2Proof/Machine/ProfileTable.lean ====
section
/-! DEFINITION. The reference profiles (06_reference_profiles.md): run records (R105 to R107), qualification (R108), the
clean mask (R109), learning (R110, R111), aging (R112), the last run result (R113), FORGET (R116). -/

namespace Sys2Proof.Machine

/-- A run record as it is opened at a grant (R105). -/
def openRecord (startPos : Int) (referenced held : Bool) : RunRecord where
  startPos := startPos
  referencedAtStart := referenced
  heldAtStart := held
  unreferencedSeen := false
  verdictMark := false
  zones := Vector.replicate 64 { sum := 0, count := 0, clean := true }

/-- Whether a sample makes its zone unclean (R106). -/
def uncleanSample (x : Sample) : Bool := !x.valid || x.disturbed || x.stepOpen || decide (x.cls ≠ .low)

/-- A zone's accumulation after a sample in it (R106). -/
def ZoneAcc.add (a : ZoneAcc) (x : Sample) : ZoneAcc :=
  { sum := if x.valid then a.sum + x.f else a.sum
    count := if x.valid then min 65535 (a.count + 1) else a.count
    clean := a.clean && !uncleanSample x }

/-- The run record after a completed sample (R106). `verdict` says whether the sample took a band verdict. -/
def RunRecord.add (r : RunRecord) (x : Sample) (verdict : Bool) : RunRecord :=
  { r with
    unreferencedSeen := r.unreferencedSeen || !x.referenced
    verdictMark := r.verdictMark || verdict
    zones := r.zones.set x.zone (r.zones[x.zone].add x) }

/-- The first condition of R108 that a run fails, if any. -/
def runFailure (travel : Nat) (r : RunRecord) : Option RunFailure :=
  if ¬(r.referencedAtStart = true ∧ r.unreferencedSeen = false) then some .notReferenced
  else if r.heldAtStart then some .held
  else if r.verdictMark then some .verdict
  else if r.startPos < (travel / 4 : Nat) then some .shortStart
  else none

/-- Whether a zone is in the clean mask (R109). -/
def inCleanMask (cfg : ChannelSettings) (r : RunRecord) (z : Fin 64) : Bool :=
  r.zones[z].clean && decide (2 ≤ r.zones[z].count) && decide (cfg.sealBand < zoneStart cfg.travel z)

/-- The mean of a zone of the clean mask (R109). DESIGN CHOICE (log entry 31): the quotient is not held at 32 767, where a count that has
saturated (R106) lets it pass that. -/
def zoneMean (a : ZoneAcc) : Nat := a.sum / a.count

/-- A zone of the clean mask after the learning update (R110, R111). `rc` is the run counter as raised by R108. -/
def learnZone (cfg : ChannelSettings) (rc : BitVec 16) (t : Int) (m : Nat) (z : ZoneRecord) : ZoneRecord :=
  match z.state with
  | .empty =>
    { state := .learned, baseline := clampNat cfg.bFloor cfg.bCeil m, spread := cfg.sInit, stamp := rc, tz := t }
  | .learned | .stale =>
    let delta : Int := (m : Int) - z.baseline
    let step := clampInt (-(cfg.learnStepMax : Int)) cfg.learnStepMax (Int.tdiv delta (2 ^ cfg.learnShift : Nat))
    { state := .learned
      baseline := (clampInt cfg.bFloor cfg.bCeil (z.baseline + step)).toNat
      spread := (clampInt 0 cfg.sMax (z.spread + Int.tdiv (delta.natAbs - z.spread : Int) 4)).toNat
      stamp := rc
      tz := t }

/-- A zone's age (R104). -/
def zoneAge (rc : BitVec 16) (z : ZoneRecord) : Nat := (rc - z.stamp).toNat

/-- A zone after aging (R112). -/
def ageZone (cfg : ChannelSettings) (rc : BitVec 16) (t : Int) (z : ZoneRecord) : ZoneRecord :=
  match z.state with
  | .learned =>
    if cfg.ageRuns ≤ zoneAge rc z ∨ cfg.ageTemp ≤ (t - z.tz).natAbs then { z with state := .stale } else z
  | .stale => if 4 * cfg.ageRuns ≤ zoneAge rc z then emptyZone else z
  | .empty => z

/-- The number of zones of which `p` holds. -/
def countZones (p : Fin 64 → Bool) : Nat := ((List.finRange 64).filter p).length

/-- The zones of which `p` holds as 64 flags. -/
def zoneMask (p : Fin 64 → Bool) : BitVec 64 :=
  (List.finRange 64).foldl (fun m z => if p z then m ||| (1 <<< z.val) else m) 0

/-- The profile after a run record has been closed at the closed end (R108 to R113), and the number of zones updated. -/
def Profile.runEnd (p : Profile) (cfg : ChannelSettings) (t : Int) (r : RunRecord) : Profile × Nat :=
  let failed := runFailure cfg.travel r
  let rc := if failed = none then p.runCounter + 1 else p.runCounter
  let updates := fun z => failed = none && inCleanMask cfg r z
  let learned := mapZones (fun z x => if updates z then learnZone cfg rc t (zoneMean r.zones[z]) x else x) p.zones
  let aged := mapZones (fun _ x => ageZone cfg rc t x) learned
  let n := countZones updates
  ({ zones := aged
     runCounter := rc
     record := none
     lastRun :=
       { outcome := if failed = none then .qualified else .notQualified
         failed := failed
         startPos := r.startPos
         cleanMask := zoneMask (inCleanMask cfg r)
         updated := n
         madeStale := countZones fun z => decide (learned[z].state = .learned ∧ aged[z].state = .stale)
         madeEmpty := countZones fun z => decide (learned[z].state = .stale ∧ aged[z].state = .empty)
         runCounter := rc } }, n)

/-- The last run result of a run record that is abandoned or discarded (R107, R113). -/
def droppedRun (o : RunOutcome) (startPos : Int) (rc : BitVec 16) : LastRun :=
  { noRun with outcome := o, startPos := startPos, runCounter := rc }

/-- The profile after an abandoned run (R107). -/
def Profile.abandon (p : Profile) : Profile :=
  match p.record with
  | some r => { p with record := none, lastRun := droppedRun .abandoned r.startPos p.runCounter }
  | none => p

/-- The last run result after FORGET (R113, R116, log entry 14): DISCARDED, but NONE stays NONE while no run record has
been closed or discarded since the start. -/
def forgottenRun (p : Profile) : LastRun :=
  match p.record with
  | some r => droppedRun .discarded r.startPos p.runCounter
  | none =>
    match p.lastRun.outcome with
    | .none => p.lastRun
    | _ => droppedRun .discarded p.lastRun.startPos p.runCounter

/-- The profile after FORGET (R116). -/
def Profile.forget (p : Profile) : Profile :=
  { p with zones := emptyZones, record := none, lastRun := forgottenRun p }

/-- The profile under a bounds SET: every LEARNED and STALE baseline clamped into the bounds (R114). -/
def Profile.underBounds (p : Profile) (lo hi : Nat) : Profile :=
  { p with
    zones := mapZones (fun _ z =>
      match z.state with
      | .empty => z
      | .learned | .stale => { z with baseline := clampNat lo hi z.baseline }) p.zones }

/-- The profile under a SET of S_MAX: every spread at most S_MAX (R115). -/
def Profile.underSpread (p : Profile) (sMax : Nat) : Profile :=
  { p with zones := mapZones (fun _ z => { z with spread := min z.spread sMax }) p.zones }

/-- A run record closed by the controller for a channel (R107): at the closed end it is processed and each updated zone
counted (R110, R111), otherwise it is abandoned. -/
def State.closeRun (s : State) (c : Channel) (atClosedEnd : Bool) : State :=
  let sl := s.slice c
  if atClosedEnd then
    match sl.prf.record with
    | some r =>
      let (p, n) := sl.prf.runEnd sl.cfg s.temperature r
      (s.modPrf c fun _ => p).countEvents c .zoneUpdates n
    | none => s
  else s.modPrf c Profile.abandon

end Sys2Proof.Machine
end

