-- ==== Sys2Proof/Machine/Arbiter.lean ====
section
/-! DEFINITION. The start arbiter (section 3.2): charges (R53), scans (R54, R55), grants delivered to their controllers
(R22), releases (R56), and the start and end of a drive phase (R66, R68, R98). -/

namespace Sys2Proof.Machine

/-- The charge sum: the total of the eight charges (section 3.2). -/
def State.chargeSum (s : State) : Nat := (s.ch.toList.map fun sl => sl.arb.charge).sum

/-! ### Drive phases -/

/-- A drive phase begins (R66, R98): in the estimator and in the verdict unit. The blanking timer of a CLOSING or OPENING
phase starts at START_STALL_MS unless BLANK is 0. A REVERSING phase has none (R68). -/
def State.startPhase (s : State) (c : Channel) (ph : Phase) : State :=
  let cfg := (s.slice c).cfg
  let timer : Timer :=
    match ph with
    | .reversing => none
    | .closing | .opening => if cfg.blank = 0 then none else some cfg.startStallMs
  (s.modEst c fun e =>
    { e with phase := some ph, sampleNo := 0, filter := none, readings := [], newest := none, blankTimer := timer }).modVdu
    c fun v => v.startPhase cfg.startStallMs

/-- A drive phase ends (R66, R91, R98). -/
def State.endPhase (s : State) (c : Channel) : State :=
  (s.modEst c fun e => { e with phase := none, blankTimer := none }).modVdu c VerdictUnit.endPhase

/-! ### Charges (R53) -/

/-- The charge falls to the run charge recorded at the grant: at the end of start blanking and at entry into REVERSING. -/
def Grant.toRunCharge (a : Grant) : Grant :=
  if a.held then { a with charge := a.runCharge, inBlanking := false } else a

/-- A grant (R53, R55): the start charge and run charge are recorded and the start charge counts. -/
def Grant.give (iStart iRun : Nat) : Grant :=
  { held := true, startCharge := iStart, runCharge := iRun, inBlanking := true, charge := iStart }

/-- A release (R56): no grant, no charge, past blanking. The recorded charges govern no grant any more and stand as they were. -/
def Grant.release (a : Grant) : Grant := { a with held := false, charge := 0, inBlanking := false }

/-! ### One examination of the queue (R55) -/

/-- The queue from head to tail against a charge sum: the entries that stay, with their passes, and the channels granted,
in queue order. An entry that does not fit blocks at 3 passes, and gains one when an entry behind it is granted. -/
def scanQueue (iStart : Channel → Nat) (budget : Nat) : Nat → List QueueEntry → List QueueEntry × List Channel
  | _, [] => ([], [])
  | sum, e :: rest =>
    if sum + iStart e.channel ≤ budget then
      let r := scanQueue iStart budget (sum + iStart e.channel) rest
      (r.1, e.channel :: r.2)
    else if 3 ≤ e.passes then (e :: rest, [])
    else
      let r := scanQueue iStart budget sum rest
      ((if r.2 = [] then e else { e with passes := e.passes + 1 }) :: r.1, r.2)

/-- The grants of one scan recorded: charges set (R53) and the store told of each (R160). -/
def State.recordGrant (s : State) (c : Channel) : State :=
  let cfg := (s.slice c).cfg
  (s.modArb c fun _ => Grant.give cfg.iStart cfg.iRun).noteMovement

/-! ### Starting a move (R22) -/

/-- The profile a move is driven with (R22, R48). -/
def profileOf (m : Move) (referenced : Bool) : DutyProfile :=
  match m.mode with
  | .manual => if referenced then .normal else .inch
  | .express | .target => .normal

/-- A granted move starts (R22): state, drive, phase, and for a close a run record. One CLOSE_RUNS or OPEN_RUNS is counted. -/
def State.startMove (s : State) (c : Channel) (m : Move) : State :=
  let sl := s.slice c
  let ref := sl.trk.referenced
  let pos := sl.trk.position
  match m.dir with
  | .closing =>
    let s1 := s.modCtl c fun t => { t with motion := .closing, recovery := 0 }
    let s2 := s1.modDrv c fun d => d.orderDrive sl.cfg .closing (profileOf m ref) ref pos
    let s3 := s2.startPhase c .closing
    let s4 := s3.modPrf c fun p => { p with record := some (openRecord pos ref sl.ctl.held) }
    s4.countEvent c .closeRuns
  | .opening =>
    let s1 := s.modCtl c fun t => { t with motion := .opening, recovery := 0 }
    let s2 := s1.modDrv c fun d => d.orderDrive sl.cfg .opening (profileOf m ref) ref pos
    let s3 := s2.startPhase c .opening
    s3.countEvent c .openRuns

/-- A grant delivered to its controller (R22), and whether a charge fell or a grant came back in the delivery: a controller
that is not WAITING returns the grant, and with BLANK 0 start blanking ends at the start of the phase (R53). -/
def State.deliver (s : State) (c : Channel) : State × Bool :=
  let sl := s.slice c
  match sl.ctl.motion, sl.ctl.move with
  | .waiting, some m =>
    let s1 := s.startMove c m
    if sl.cfg.blank = 0 then (s1.modArb c Grant.toRunCharge, true) else (s1, false)
  | _, _ => (s.modArb c Grant.release, true)

/-- Scans of the queue (R54, R55): while the sag flag is set nothing is granted; otherwise one examination, its grants
recorded and then delivered in queue order, and one further scan at each delivery that lowered a charge (log entry 8).
Every scan after the first follows a grant, so `fuel` one above the queue's length is never used up. -/
def State.scanFuel : Nat → State → State
  | 0, s => s
  | fuel + 1, s =>
    if s.supply.sag then s
    else
      let r := scanQueue (fun c => (s.slice c).cfg.iStart) s.globals.budget s.chargeSum s.queue
      let s1 := r.2.foldl State.recordGrant { s with queue := r.1 }
      r.2.foldl (fun t c =>
        let d := t.deliver c
        if d.2 then State.scanFuel fuel d.1 else d.1) s1

/-- A scan (R54). -/
def State.scan (s : State) : State := State.scanFuel (s.queue.length + 1) s

/-! ### Joining and leaving the queue, releases, ends of blanking -/

/-- Whether a channel has an entry in the start queue (R52). -/
def State.isQueued (s : State) (c : Channel) : Bool := s.queue.any fun e => decide (e.channel = c)

/-- An entry joins the tail of the queue with 0 passes and the arbiter scans (R52, R54). -/
def State.joinQueue (s : State) (c : Channel) : State :=
  if s.isQueued c then s else State.scan { s with queue := s.queue ++ [{ channel := c, passes := 0 }] }

/-- An entry leaves the queue by removal and the arbiter scans (R52, R54). -/
def State.leaveQueue (s : State) (c : Channel) : State :=
  if s.isQueued c then State.scan { s with queue := s.queue.filter fun e => decide (e.channel ≠ c) } else s

/-- A grant is released and the arbiter scans (R56). -/
def State.releaseGrant (s : State) (c : Channel) : State :=
  if (s.slice c).arb.held then (s.modArb c Grant.release).scan else s

/-- Start blanking ends, or REVERSING is entered: the charge falls and the arbiter scans (R53, R54). -/
def State.lowerCharge (s : State) (c : Channel) : State :=
  if (s.slice c).arb.held then (s.modArb c Grant.toRunCharge).scan else s

end Sys2Proof.Machine
end

