-- ==== Sys2Proof/Machine/Motion.lean ====
section
/-! DEFINITION. The channel controller (02_channel_motion.md): move records (R18), their checks (R19) and what becomes of
them (R20 to R24), HALT, braking and quiet (R27, R28), stall expiries (R29), pinch verdicts and reversals (R31 to R34),
streak and held mode (R35, R36), faults, desync and supply cut (R40 to R43). -/

namespace Sys2Proof.Machine

/-! ### The end of a reversal, streak and held mode -/

/-- A reversal ends (R34): reversal open is cleared, held mode set or restarted. -/
def Controller.endReversal (t : Controller) (cfg : ChannelSettings) : Controller :=
  if t.reversalOpen then
    if t.held then { t with reversalOpen := false, heldTimer := some (cfg.heldS * 1000) }
    else if t.streak = cfg.nHeld then
      { t with reversalOpen := false, held := true, heldTimer := some (cfg.heldS * 1000) }
    else { t with reversalOpen := false }
  else t

/-- The closed or the open end is reached (R35): streak 0, held mode ended. -/
def Controller.reachEnd (t : Controller) : Controller := { t with streak := 0, held := false, heldTimer := none }

/-- Whether the held flag differs between two states of a channel (R44). -/
def heldChanged (s s' : State) (c : Channel) : Bool := (s.slice c).ctl.held != (s'.slice c).ctl.held

/-- Whether the referenced flag differs between two states of a channel (R9, R44). -/
def referencedChanged (s s' : State) (c : Channel) : Bool := (s.slice c).trk.referenced != (s'.slice c).trk.referenced

/-! ### Becoming IDLE -/

/-- The controller's own state as it becomes IDLE (R17, R25): no move, no pending move, hold timer stopped. That the end reason is
cleared is the model's choice (log entry 18). -/
def Controller.idle (t : Controller) : Controller :=
  { t with motion := .idle, move := none, slot := none, holdTimer := none, endReason := none }

/-- A channel that braked or was cut becomes IDLE (R28, R43): an open reversal ends first, outputs OFF, grant released,
notices MOVE_END and then HELD (R44). -/
def State.finishIdle (s : State) (c : Channel) (reason : Option Reason) (outcome : Option Status) : State :=
  let cfg := (s.slice c).cfg
  let s1 := s.modCtl c fun t => (t.endReversal cfg).idle
  let s2 := (s1.modDrv c Drive.orderOff).releaseGrant c
  (s2.noticeMoveEnd c reason outcome).noticeHeld c (heldChanged s s1 c)

/-- A WAITING channel becomes IDLE (R20, R24, R25, R42): its entry is removed, the hold timer stopped. -/
def State.cancelWaiting (s : State) (c : Channel) (reason : Reason) : State :=
  ((s.modCtl c Controller.idle).leaveQueue c).noticeMoveEnd c (some reason) none

/-! ### Braking (R27) -/

/-- Braking begins for a driven channel (R27). The run record is closed at the closed end only when the closed end ordered
the brake. The hold timer is stopped. A rule that places a MANUAL record in the pending slot starts it again (R25). -/
def State.brake (s : State) (c : Channel) (action : AfterBrake) (reason : Reason) (atClosedEnd : Bool) : State :=
  let s1 := s.modDrv c Drive.orderBrake
  let s2 := s1.modCtl c fun t =>
    { t with
      motion := .braking, afterBrake := action, endReason := some reason, move := none, holdTimer := none, recovery := 0 }
  (s2.endPhase c).closeRun c atClosedEnd

/-- Braking with after-brake action GO_IDLE that is not at the closed end. -/
def State.brakeToIdle (s : State) (c : Channel) (reason : Reason) : State := s.brake c .goIdle reason false

/-! ### Move records (R18) -/

/-- What R18 makes of a channel's part of a MOVE: a null move, or a move record. -/
inductive Settled where
  | null (mode : MoveMode)
  | move (m : Move)
  deriving DecidableEq, Repr

/-- R18: direction and target settled against a position. -/
def settle (travel : Nat) (position : Int) (mode : MoveMode) (dir : Dir) (target : Nat) (src : Source) : Settled :=
  match mode with
  | .manual =>
    .move { mode := .manual, dir := dir, target := (match dir with | .opening => travel | .closing => 0), source := src }
  | .express =>
    match dir with
    | .opening =>
      if (travel : Int) ≤ position then .null .express
      else .move { mode := .express, dir := .opening, target := travel, source := src }
    | .closing => .move { mode := .express, dir := .closing, target := 0, source := src }
  | .target =>
    let t := min target travel
    if t = 0 then .move { mode := .express, dir := .closing, target := 0, source := src }
    else if ((t : Int) - position).natAbs ≤ 2 then .null .target
    else if (t : Int) < position then .move { mode := .target, dir := .closing, target := t, source := src }
    else .move { mode := .target, dir := .opening, target := t, source := src }

/-- The mode of a settled record. -/
def Settled.mode : Settled → MoveMode
  | .null m => m
  | .move m => m.mode

/-- EXPRESS or TARGET. -/
def isOneTouch : MoveMode → Bool
  | .manual => false
  | .express | .target => true

/-- REVERSING, or BRAKING toward a reversal. -/
def Controller.inReversal (t : Controller) : Bool :=
  match t.motion with
  | .reversing => true
  | .braking => decide (t.afterBrake = .reverse)
  | .idle | .waiting | .closing | .opening | .faulted => false

/-- The refusal a settled record meets (R19), if any. A null move meets checks 1 and 2 only. -/
def refusal (cfg : ChannelSettings) (referenced : Bool) (t : Controller) (x : Settled) : Option Status :=
  if t.motion = .faulted then some .refusedFault
  else if referenced = false ∧ isOneTouch x.mode then some .refusedUnref
  else
    match x with
    | .null _ => none
    | .move m =>
      match m.dir with
      | .closing =>
        if isOneTouch m.mode ∧ t.held then some .refusedHeld
        else if t.inReversal then some .refusedReversing
        else none
      | .opening =>
        if t.motion ≠ .opening ∧ t.inReversal = false ∧ t.credit < min cfg.creditStart cfg.creditMax then
          some .refusedThermal
        else none

/-- A REFUSED_THERMAL is counted (R19). -/
def State.countRefusal (s : State) (c : Channel) (st : Status) : State :=
  match st with
  | .refusedThermal => s.countEvent c .thermalRefusals
  | _ => s

/-- The hold timer as an admitted record leaves it (R25): a MANUAL record starts it at HOLD_MS, any other stops it. -/
def holdFor (cfg : ChannelSettings) (m : Move) : Timer :=
  match m.mode with
  | .manual => some cfg.holdMs
  | .express | .target => none

/-! ### What becomes of a record -/

/-- A null move (R20). The outcome is DONE. -/
def State.takeNull (s : State) (c : Channel) : State :=
  let t := (s.slice c).ctl
  match t.motion with
  | .idle | .reversing | .faulted => s
  | .waiting => s.cancelWaiting c .targetReached
  | .closing | .opening => s.brakeToIdle c .targetReached
  | .braking =>
    match t.afterBrake with
    | .reverse => s
    | .goIdle | .requeue =>
      s.modCtl c fun t =>
        { t with slot := none, holdTimer := none, afterBrake := .goIdle, endReason := some .targetReached }

/-- STARTED when the scan granted the channel, QUEUED otherwise (R21). -/
def State.startedOrQueued (s : State) (c : Channel) : Status :=
  if (s.slice c).ctl.motion = .waiting then .queued else .started

/-- An admitted record on an IDLE channel (R21): the channel is WAITING with an entry at the tail, and the arbiter scans. -/
def State.beginWaiting (s : State) (c : Channel) (m : Move) (hold : Timer) : State :=
  (s.modCtl c fun t => { t with motion := .waiting, move := some m, slot := none, holdTimer := hold }).joinQueue c

/-- An admitted move record taken by the rule of the motion state (R21, R23, R24), with its outcome. -/
def State.takeRecord (s : State) (c : Channel) (m : Move) : State × Status :=
  let sl := s.slice c
  let hold := holdFor sl.cfg m
  match sl.ctl.motion with
  | .idle =>
    let s' := s.beginWaiting c m hold
    (s', s'.startedOrQueued c)
  | .waiting => (s.modCtl c fun t => { t with move := some m, holdTimer := hold }, .merged)
  | .closing =>
    match m.dir with
    | .closing => (s.modCtl c fun t => { t with move := some m, holdTimer := hold }, .merged)
    | .opening =>
      ((s.brake c .requeue .halted false).modCtl c fun t => { t with slot := some m, holdTimer := hold }, .pending)
  | .opening =>
    match m.dir with
    | .opening => (s.modCtl c fun t => { t with move := some m, holdTimer := hold }, .merged)
    | .closing =>
      ((s.brake c .requeue .halted false).modCtl c fun t => { t with slot := some m, holdTimer := hold }, .pending)
  | .reversing => (s.modCtl c fun t => { t with reversalTarget := max t.reversalTarget m.target }, .merged)
  | .braking =>
    match sl.ctl.afterBrake with
    | .reverse => (s.modCtl c fun t => { t with reversalTarget := max t.reversalTarget m.target }, .merged)
    | .goIdle | .requeue =>
      (s.modCtl c fun t => { t with slot := some m, holdTimer := hold, afterBrake := .requeue }, .pending)
  | .faulted => (s, .refusedFault)

/-- A channel's allowed part of a MOVE (R18 to R24), with its outcome. -/
def State.takePart (s : State) (c : Channel) (mode : MoveMode) (dir : Dir) (target : Nat) (src : Source) :
    State × Status :=
  let sl := s.slice c
  let x := settle sl.cfg.travel sl.trk.position mode dir target src
  match refusal sl.cfg sl.trk.referenced sl.ctl x with
  | some st => (s.countRefusal c st, st)
  | none =>
    match x with
    | .null _ => (s.takeNull c, .done)
    | .move m => s.takeRecord c m

/-- HALT (R24). -/
def State.haltPart (s : State) (c : Channel) : State :=
  let t := (s.slice c).ctl
  match t.motion with
  | .idle | .faulted => s
  | .waiting => s.cancelWaiting c .halted
  | .closing | .opening | .reversing => s.brakeToIdle c .halted
  | .braking =>
    match t.afterBrake with
    | .reverse => s.modCtl c fun t => { t with afterBrake := .goIdle, endReason := some .halted }
    | .goIdle => s.modCtl c fun t => { t with slot := none, holdTimer := none }
    | .requeue =>
      s.modCtl c fun t => { t with slot := none, holdTimer := none, afterBrake := .goIdle, endReason := some .halted }

/-! ### Brake quiet (R28) -/

/-- The reversal is driven (R33): opening with the normal profile, at the run charge, with a new phase and no run record. -/
def State.enterReversing (s : State) (c : Channel) : State :=
  let sl := s.slice c
  let s1 := s.modCtl c fun t => { t with motion := .reversing, holdTimer := none, recovery := 0 }
  let s2 := s1.modDrv c fun d => d.orderDrive sl.cfg .opening .normal sl.trk.referenced sl.trk.position
  (s2.startPhase c .reversing).lowerCharge c

/-- The pending record at quiet (R28, REQUEUE): an open reversal ends, the grant is released, the record is settled and
checked again with the channel counted as IDLE, and is queued again or refused. -/
def State.requeue (s : State) (c : Channel) (m : Move) : State :=
  let sl := s.slice c
  let hold := sl.ctl.holdTimer
  let s1 := s.modCtl c fun t => (t.endReversal sl.cfg).idle
  let s2 := (s1.modDrv c Drive.orderOff).releaseGrant c
  let sl2 := s2.slice c
  let x := settle sl2.cfg.travel sl2.trk.position m.mode m.dir m.target m.source
  let fail := fun (st : Status) =>
    ((s2.countRefusal c st).noticeMoveEnd c sl.ctl.endReason (some st)).noticeHeld c (heldChanged s s1 c)
  match refusal sl2.cfg sl2.trk.referenced sl2.ctl x with
  | some st => fail st
  | none =>
    match x with
    | .null _ => fail .done
    | .move m' => (s2.beginWaiting c m' hold).noticeHeld c (heldChanged s s1 c)

/-- Brake quiet is taken by the controller (R28). -/
def State.takeQuiet (s : State) (c : Channel) : State :=
  let sl := s.slice c
  match sl.ctl.motion with
  | .braking =>
    match sl.ctl.afterBrake with
    | .goIdle => s.finishIdle c sl.ctl.endReason none
    | .reverse =>
      if sl.trk.position < sl.ctl.reversalTarget then s.enterReversing c
      else s.finishIdle c (some .reversalDone) none
    | .requeue =>
      match sl.ctl.slot with
      | some m => s.requeue c m
      | none => s.finishIdle c sl.ctl.endReason none
  | .idle | .waiting | .closing | .opening | .reversing | .faulted => s

/-! ### Pinch verdicts (R31, R32) -/

/-- The reversal target (R32): first-hit position plus REV_DIST, at least REV_MIN_POS, at most TRAVEL. TRAVEL when REV_DIST
is 0. -/
def reversalTargetOf (cfg : ChannelSettings) (firstHit : Int) : Nat :=
  if cfg.revDist = 0 then cfg.travel
  else (min (cfg.travel : Int) (max (firstHit + cfg.revDist) cfg.revMinPos)).toNat

/-- Steps 1 to 4 of R31. -/
def State.pinchBrake (s : State) (c : Channel) (firstHit : Int) : State :=
  let cfg := (s.slice c).cfg
  (s.brake c .reverse .reversalDone false).modCtl c fun t =>
    { t with
      streak := min cfg.nHeld (t.streak + 1)
      reversalOpen := true
      heldTimer := none
      reversalTarget := reversalTargetOf cfg firstHit }

/-- The incident of a pinch (R31 step 5): the channel as found, with streak and held after step 3. -/
def State.pinchIncident (before after : State) (c : Channel) (k : IncidentKind) (firstHit : Int) : Incident :=
  let t := (after.slice c).ctl
  { before.incidentNow c k with
    streak := t.streak
    held := t.held
    pinch := some { firstHit := firstHit, reversalTarget := t.reversalTarget } }

/-- A stall expiry read as a pinch (R29, R31). -/
def State.stallPinch (s : State) (c : Channel) : State :=
  let pos := (s.slice c).trk.position
  let s1 := s.pinchBrake c pos
  (s1.submit (s.pinchIncident s1 c .stallPinch pos)).countEvent c .stallReversals

/-- The band group of a verdict record (R122). -/
def bandGroupOf (v : Verdict) : BandGroup where
  residue := v.residue
  tl := v.tl
  mode := v.mode
  hitMask := v.hitMask
  hitIndex := v.hitIndex
  validLength := v.validLength
  aDist := v.aDist
  aSupply := v.aSupply
  aSpeed := v.aSpeed

/-- A verdict record reaches its controller (R30, R31): it acts while the channel is CLOSING and is discarded otherwise. -/
def State.bandPinch (s : State) (c : Channel) (v : Verdict) : State :=
  match (s.slice c).ctl.motion with
  | .closing =>
    let s1 := s.pinchBrake c v.firstHit
    let r :=
      { s.pinchIncident s1 c .bandPinch v.firstHit with
        position := v.position
        zone := zoneOf (s.slice c).cfg.travel v.position
        duty := v.dty
        supply := v.u
        band := some (bandGroupOf v) }
    (s1.submit r).countEvent c .bandReversals
  | .idle | .waiting | .opening | .reversing | .braking | .faulted => s

/-! ### Stall expiries (R29) -/

/-- The closed end (R10, R12, R29, R35): position and uncertainty 0, referenced; the streak and held mode end; the run
record is closed at the closed end. -/
def State.closedEnd (s : State) (c : Channel) : State :=
  let s1 := s.modTrk c fun t => { t with position := 0, uncertainty := 0, referenced := true }
  let s2 := (s1.modCtl c Controller.reachEnd).brake c .goIdle .closedEnd true
  (s2.noticeHeld c (heldChanged s s2 c)).noticeReferenced c (referencedChanged s s2 c)

/-- The open end found by a stall (R11, R29, R35). -/
def State.openEndStall (s : State) (c : Channel) : State :=
  let travel := (s.slice c).cfg.travel
  let s1 := s.modTrk c fun t => { t with position := travel }
  let s2 := (s1.modCtl c Controller.reachEnd).brakeToIdle c .openEnd
  s2.noticeHeld c (heldChanged s s2 c)

/-- The open end found by position (R26, R35). -/
def State.openEndPosition (s : State) (c : Channel) : State :=
  let s1 := (s.modCtl c Controller.reachEnd).brakeToIdle c .openEnd
  s1.noticeHeld c (heldChanged s s1 c)

/-- An obstruction (R29). -/
def State.obstruction (s : State) (c : Channel) : State :=
  (s.submit (s.incidentNow c .openObstruct)).brakeToIdle c .obstructed

/-- A stall expiry delivered to the controller (R29). In any other state it is discarded (R30). -/
def State.takeStall (s : State) (c : Channel) : State :=
  let sl := s.slice c
  match sl.ctl.motion with
  | .closing =>
    if sl.trk.referenced ∧ (sl.cfg.sealBand : Int) < sl.trk.position then s.stallPinch c else s.closedEnd c
  | .opening =>
    if (sl.cfg.travel : Int) - sl.cfg.openTol ≤ sl.trk.position then s.openEndStall c else s.obstruction c
  | .reversing => s.obstruction c
  | .idle | .waiting | .braking | .faulted => s

/-! ### Position ends (R26) -/

/-- The position compared with the move in force at an edge of a driven, referenced channel (R26). -/
def State.positionEnd (s : State) (c : Channel) : State :=
  let sl := s.slice c
  let pos := sl.trk.position
  if sl.trk.referenced then
    match sl.ctl.motion, sl.ctl.move with
    | .opening, some m =>
      if (sl.cfg.travel : Int) ≤ pos then s.openEndPosition c
      else if m.mode = .target ∧ (m.target : Int) ≤ pos then s.brakeToIdle c .targetReached
      else s
    | .opening, none => if (sl.cfg.travel : Int) ≤ pos then s.openEndPosition c else s
    | .closing, some m =>
      if m.mode = .target ∧ pos ≤ (m.target : Int) then s.brakeToIdle c .targetReached else s
    | .reversing, _ =>
      if (sl.ctl.reversalTarget : Int) ≤ pos then s.brakeToIdle c .reversalDone else s
    | _, _ => s
  else s

/-! ### Faults, desync, supply cut -/

/-- Entry into FAULTED (R40): outputs OFF, grant and queue entry given up, moves dropped, phase and run record ended, an open
reversal ended. The notices are HELD, REFERENCED and FAULT, in that order (R44, log entry 15). -/
def State.enterFaulted (s : State) (c : Channel) (k : FaultKind) (referencedCleared : Bool) : State :=
  let cfg := (s.slice c).cfg
  let s1 := s.modDrv c Drive.orderOff
  let s2 := s1.modCtl c fun t =>
    { t.endReversal cfg with motion := .faulted, move := none, slot := none, holdTimer := none }
  let s3 := (s2.endPhase c).modPrf c Profile.abandon
  let s4 := (s3.leaveQueue c).releaseGrant c
  ((s4.noticeHeld c (heldChanged s s2 c)).noticeReferenced c referencedCleared).noticeFault c (some k)

/-- A desync taken by the controller (R42), with the REFERENCED notice of the flag the tracker has cleared (R9). -/
def State.takeDesync (s : State) (c : Channel) : State :=
  let t := (s.slice c).ctl
  let s1 :=
    match t.motion with
    | .closing | .opening | .reversing => s.brakeToIdle c .desync
    | .waiting =>
      match t.move with
      | some m => if isOneTouch m.mode then s.cancelWaiting c .desync else s
      | none => s
    | .braking | .idle | .faulted => s
  s1.noticeReferenced c true

/-- A supply cut reaches a channel (R43, R62): a driven or braking one is recorded, turned OFF and becomes IDLE. -/
def State.cutChannel (s : State) (c : Channel) : State :=
  match (s.slice c).ctl.motion with
  | .closing | .opening | .reversing | .braking =>
    let s1 := s.submit (s.incidentNow c .supplyCut)
    let s2 := s1.modDrv c Drive.orderOff
    let s3 := (s2.endPhase c).modPrf c Profile.abandon
    s3.finishIdle c (some .supplyCut) none
  | .idle | .waiting | .faulted => s

/-- CLEAR_FAULT carried out for a FAULTED channel (R9, R41): the reference is dropped, the history emptied, the channel IDLE.
The FAULT notice comes before the REFERENCED one. -/
def State.clearFaulted (s : State) (c : Channel) : State :=
  let s1 := s.modTrk c fun t => { t with referenced := false, history := [] }
  let s2 := s1.modCtl c fun t => { t with overcurrent := 0, motion := .idle, endReason := none }
  (s2.noticeFault c none).noticeReferenced c (referencedChanged s s2 c)

end Sys2Proof.Machine
end

