-- ==== Sys2Proof/Machine/Edge.lean ====
section
/-! DEFINITION. A Hall edge from its decoding to the last block that receives it: the tracker's own handling (R2 to R7), the
sample it may form (R67, R86, R106, R126, R131), the stall timer (R98), the drive unit (R49, R50), the controller (R26, R42)
and the park mark (R160). -/

namespace Sys2Proof.Machine

/-! ### The position tracker -/

/-- The place of a pair in the opening order 00, 01, 11, 10 (R2). -/
def HallPair.place (h : HallPair) : Nat :=
  match h.a, h.b with
  | false, false => 0
  | false, true => 1
  | true, true => 2
  | true, false => 3

/-- What a newly sampled pair is against the last one (R2): none when equal, a count, or an invalid transition. -/
inductive Transition where
  | same
  | count (d : Dir)
  | invalid
  deriving DecidableEq, Repr

/-- R2: one place on is a count opening, one place back a count closing, two places an invalid transition. -/
def decodeHall (last new : HallPair) : Transition :=
  match (HallPair.place new + 4 - HallPair.place last) % 4 with
  | 0 => .same
  | 1 => .count .opening
  | 3 => .count .closing
  | _ => .invalid

/-- The period of an edge (R3). -/
def periodOf (t : Tracker) (now : BitVec 32) : Nat :=
  if t.longPast then 65535 else clampNat 1 65535 (now - t.lastStamp).toNat

/-- The position after a count (R4): held within −32 768..32 767 while the channel is not referenced. -/
def countPosition (referenced : Bool) (pos : Int) (d : Dir) : Int :=
  let p := match d with | .opening => pos + 1 | .closing => pos - 1
  if referenced then p else clampInt (-32768) 32767 p

/-- The history after an edge (R6): the entry appended, the oldest of 17 removed. -/
def historyPush (h : List Bool) (valid : Bool) : List Bool :=
  let l := h ++ [valid]
  if 16 < l.length then l.drop 1 else l

/-- The number of INVALID entries (R6). -/
def invalidCount (h : List Bool) : Nat := (h.filter fun v => !v).length

/-- The tracker after R3 to R6's appending, for a transition that is not `same`. -/
def Tracker.edge (t : Tracker) (now : BitVec 32) (new : HallPair) (dir : Option Dir) : Tracker :=
  { t with
    hall := new
    lastStamp := now
    longPast := false
    position := match dir with
      | some d => countPosition t.referenced t.position d
      | none => t.position
    uncertainty := match dir with
      | some _ => t.uncertainty
      | none => min 255 (t.uncertainty + 1)
    history := historyPush t.history dir.isSome }

/-- Whether an edge raises a Hall fault (R6). -/
def raisesHallFault (t : Tracker) (motion : Motion) : Bool := decide (4 ≤ invalidCount t.history) && decide (motion ≠ .faulted)

/-- Whether an edge of a referenced channel is a desync (R7). -/
def isDesync (travel : Nat) (t : Tracker) (dir : Option Dir) : Bool :=
  t.referenced &&
    match dir with
    | some _ => decide (t.position < -16) || decide ((travel : Int) + 16 < t.position)
    | none => decide (8 < t.uncertainty)

/-- What the tracker reports to its controller at an edge. -/
inductive EdgeReport where
  | none
  | hallFault (referencedCleared : Bool)
  | desync
  deriving DecidableEq, Repr

/-- The tracker's own handling of an edge (R3 to R7) with the incident it submits, and what it reports to its controller. -/
def State.trackEdge (s : State) (c : Channel) (new : HallPair) (dir : Option Dir) : State × EdgeReport :=
  let s1 := s.modTrk c fun t => t.edge s.timeBase new dir
  let s2 := match dir with | none => s1.countEvent c .hallInvalid | some _ => s1
  let sl := s2.slice c
  if raisesHallFault sl.trk sl.ctl.motion then
    let s3 := s2.modTrk c fun t => { t with referenced := false, history := [] }
    (s3.submit (s3.incidentNow c .hallFault), .hallFault sl.trk.referenced)
  else if isDesync sl.cfg.travel sl.trk dir then
    let s3 := s2.modTrk c fun t => { t with referenced := false }
    (s3.submit (s3.incidentNow c .desync), .desync)
  else (s2, .none)

/-! ### The sample -/

/-- A phase is among the tap phases (R130). -/
def PhaseSet.has (p : PhaseSet) : Phase → Bool
  | .closing => p.closing
  | .opening => p.opening
  | .reversing => p.reversing

/-- A completed sample is offered to the tap (R131). -/
def State.tapSample (s : State) (x : Sample) : State :=
  if s.tap.channel = some x.channel ∧ s.tap.phases.has x.phase then
    if s.link.routine.length + 4 ≤ routineCapacity then
      let s' := s.queueReport .tapSample (.tapSample x s.tap.skipped)
      { s' with tap := { s'.tap with skipped := 0 } }
    else { s with tap := { s.tap with skipped := min 65535 (s.tap.skipped + 1) } }
  else s

/-- A completed sample is counted (R126). -/
def State.countSample (s : State) (x : Sample) : State :=
  let c := x.channel
  let s1 := s.countEvent c .samples
  let s2 := if x.valid then s1 else s1.countEvent c .invalidSamples
  let s3 := match x.cls with
    | .watch => s2.countEvent c .watchSamples
    | .trip => s2.countEvent c .tripSamples
    | .none | .low => s2
  if x.disturbed then s3.countEvent c .disturbedSamples else s3

/-- Start blanking ends at a sample (R68): in a CLOSING or OPENING phase whose blanking timer still runs, when the sample
number has reached BLANK. -/
def State.blankingAtSample (s : State) (c : Channel) : State :=
  let sl := s.slice c
  if sl.est.blankTimer.isSome ∧ sl.cfg.blank ≤ sl.est.sampleNo then
    (s.modEst c fun e => { e with blankTimer := none }).lowerCharge c
  else s

/-- A sample is formed, completed, and handed to the profile table, the counter bank and the tap (R77, R86, R97). The
verdict record, if one was formed, is delivered afterwards. -/
def State.takeSample (s : State) (c : Channel) (ph : Phase) (e : Edge) : State × Option Verdict :=
  let raw := s.formSample c ph e
  let s1 := (s.modEst c fun t => t.afterSample raw).blankingAtSample c
  let sl := s1.slice c
  let x := completeSample sl.cfg s1.globals.dRough sl.ctl.held raw
  let r := sl.vdu.afterSample sl.cfg x
  let s2 := s1.modVdu c fun _ => r.1
  let s3 := s2.modPrf c fun p => { p with record := p.record.map fun rec => rec.add x r.2.isSome }
  ((s3.countSample x).tapSample x, r.2)

/-! ### The edge handed on (R8) -/

/-- What the estimator, the verdict unit and the drive unit do with an edge: a sample may be formed, the accumulator
restarts (R69), a running stall timer restarts (R98), the drive unit takes the edge (R49, R50). -/
def State.edgeToBlocks (s : State) (c : Channel) (e : Edge) : State × Option Verdict :=
  let r :=
    match formsSample (s.slice c).est.phase e.dir with
    | some ph => s.takeSample c ph e
    | none => (s, none)
  let s1 := r.1.modEst c fun t => { t with readings := [] }
  let cfg := (s1.slice c).cfg
  let s2 := s1.modVdu c fun v => v.edge cfg.stallMs
  (s2.modDrv c fun d => d.edge cfg e.referenced e.position, r.2)

/-- What the controller does with an edge: the tracker's report, or the position compared with the move in force. -/
def State.edgeToController (s : State) (c : Channel) (r : EdgeReport) : State :=
  match r with
  | .hallFault cleared => s.enterFaulted c .hallFault cleared
  | .desync => s.takeDesync c
  | .none => s.positionEnd c

/-- An edge of a channel (R2 to R8), from the tracker's handling to the delivery of a verdict it has led to (R97), in the order of
log entry 13. DESIGN CHOICE (log entry 13): the verdict is delivered within the command of its edge, so that no other edge comes between
the two, though R92 lets one come there. -/
def State.takeEdge (s : State) (c : Channel) (new : HallPair) (dir : Option Dir) : State :=
  let t0 := (s.slice c).trk
  let tr := s.trackEdge c new dir
  let sl := tr.1.slice c
  let e : Edge :=
    { stamp := s.timeBase
      period := periodOf t0 s.timeBase
      dir := dir
      position := sl.trk.position
      zone := zoneOf sl.cfg.travel sl.trk.position
      referenced := sl.trk.referenced }
  let b := tr.1.edgeToBlocks c e
  let s1 := b.1.edgeToController c tr.2
  let s2 := match dir with | some _ => s1.noteMovement | none => s1
  match b.2 with
  | some v => s2.bandPinch c v
  | none => s2

/-- A newly sampled Hall pair of an operating part (R1, R2). -/
def State.takeHall (s : State) (c : Channel) (new : HallPair) : State :=
  match decodeHall (s.slice c).trk.hall new with
  | .same => s
  | .count d => s.takeEdge c new (some d)
  | .invalid => s.takeEdge c new none

/-- The input pin of a channel's Hall pair takes new levels. -/
def State.setHallPins (s : State) (c : Channel) (new : HallPair) : State :=
  { s with pins := s.pins.modify c fun p => { p with hall := new } }

/-- The input pin of a channel's current sense takes a new reading, saturating at 40 000 mA (log entry 24). -/
def State.setCurrentPin (s : State) (c : Channel) (mA : Nat) : State :=
  { s with pins := s.pins.modify c fun p => { p with current := senseLimit mA } }

end Sys2Proof.Machine
end

