-- ==== Sys2Proof/Machine/Ask.lean ====
section
/-! DEFINITION. The content of every ASK answer (R147, R118, R124, R127, R139, R145), as a list of fields in the order their
rules list them, each field coded by R150. An ASK changes nothing but the report queues. -/

namespace Sys2Proof.Machine

/-- The channel a byte names: none above 7 (R146). -/
def channelOfByte (b : Byte) : Option Channel := if h : b.toNat < 8 then some ⟨b.toNat, h⟩ else none

/-! ### Topic CHANNEL -/

/-- The parts of topic CHANNEL. -/
inductive ChannelPart where
  | motion | position | sample | shared
  deriving DecidableEq, Repr

def channelPartOfByte (b : Byte) : Option ChannelPart :=
  match b.toNat with
  | 0 => some .motion | 1 => some .position | 2 => some .sample | 3 => some .shared | _ => none

/-- A move record or pending slot: mode, direction, target and source (R150). -/
def moveFields (m : Option Move) : List (List Byte) :=
  match m with
  | some m => [u8 (MoveMode.code m.mode), u8 (Dir.code m.dir), u16 m.target, u8 (Source.code m.source)]
  | none => [u8 255, u8 255, u16 0, u8 255]

/-- The place of a channel in the start queue, 0 at the head, and its passes: 0 and 0 while it has no entry (log entry 17). -/
def queuePlace (c : Channel) (q : List QueueEntry) : Nat × Nat :=
  match q.findIdx? fun e => decide (e.channel = c) with
  | some i => (i, ((q[i]?).map QueueEntry.passes).getD 0)
  | none => (0, 0)

/-- A timer held in ms as a field in s, rounded up (log entry 17). -/
def secondsLeft (t : Timer) : Nat := (t.getD 0 + 999) / 1000

/-- Part MOTION (R147). -/
def State.motionFields (s : State) (c : Channel) : List (List Byte) :=
  let sl := s.slice c
  let t := sl.ctl
  let q := queuePlace c s.queue
  [u8 (Motion.code t.motion)] ++ moveFields t.move ++ moveFields t.slot ++
  [u8 (AfterBrake.code t.afterBrake), u16 (t.holdTimer.getD 0), flag t.reversalOpen, u8 t.streak, flag t.held,
   u16 (secondsLeft t.heldTimer), u32 t.credit, u8 q.1, u8 q.2, flag sl.arb.held, u32 sl.arb.charge,
   u8 (DriveMode.code sl.drv.mode), codeOrNone (sl.drv.dir.map Dir.code), u8 sl.drv.applied]

/-- Part POSITION (R147). -/
def State.positionFields (s : State) (c : Channel) : List (List Byte) :=
  let sl := s.slice c
  [i16 sl.trk.position, u8 sl.trk.uncertainty, flag sl.trk.referenced, u8 (zoneOf sl.cfg.travel sl.trk.position).val,
   u8 (invalidCount sl.trk.history)]

/-- Part SAMPLE (R77, R101, R147). That the class NONE of a present sample is sent as 0, its code of section 9.6, and so told from the 0xFF
of an absent one, is DEDUCED (log entry 19). That the valid tag and the disturbed mark of an absent one are sent as clear is the model's
choice (log entry 28). -/
def State.sampleFields (s : State) (c : Channel) : List (List Byte) :=
  let sl := s.slice c
  let v := sl.vdu
  (match sl.est.newest with
   | some x => [u16 x.f, u16 x.bEff, u16 x.allowance, i16 x.residue]
   | none => [u16 0, u16 0, u16 0, i16 0]) ++
  (match v.newest with
   | some x => [u16 x.tl, u16 x.wl, u8 (SampleClass.code x.cls), flag x.valid, flag x.disturbed]
   | none => [u16 0, u16 0, u8 255, flag false, flag false]) ++
  [u8 v.window.length, u8 (validLength v.window), flag v.decided, flag v.stallTimer.isSome, u16 (v.stallTimer.getD 0),
   codeOrNone (v.stallTimer.map fun _ => if v.firstEdge then 1 else 0)]

/-- Part SHARED (R147). -/
def State.sharedFields (s : State) : List (List Byte) :=
  [u16 s.supply.value, flag s.supply.sag, flag s.supply.stepWindow.isSome, i16 (s.motion.rest.getD 0), u16 s.motion.dlev,
   flag s.motion.failed, u8 (s.vehicle.speed.getD 0), u16 (s.vehicle.speedTimer.getD 0), i8 s.temperature,
   flag s.vehicle.tempKnown]

/-- An ASK of topic CHANNEL (R147). -/
def State.askChannel (s : State) (tag chan part : Byte) : State :=
  match channelPartOfByte part with
  | some .shared => s.answer tag .ask .done s.sharedFields
  | some .motion =>
    match channelOfByte chan with
    | some c => s.answer tag .ask .done (s.motionFields c)
    | none => s.answerPlain tag .ask .malformed
  | some .position =>
    match channelOfByte chan with
    | some c => s.answer tag .ask .done (s.positionFields c)
    | none => s.answerPlain tag .ask .malformed
  | some .sample =>
    match channelOfByte chan with
    | some c => s.answer tag .ask .done (s.sampleFields c)
    | none => s.answerPlain tag .ask .malformed
  | none => s.answerPlain tag .ask .malformed

/-! ### Topic PROFILE (R118) -/

/-- The figures of one zone: state, baseline, spread, stamp, T_z and age. -/
def zoneFields (rc : BitVec 16) (z : ZoneRecord) : List (List Byte) :=
  [u8 (ZoneState.code z.state), u16 z.baseline, u16 z.spread, u16 z.stamp.toNat, i8 z.tz, u16 (zoneAge rc z)]

/-- A last run result, in the order of R113. The clean mask is eight bytes, zone z in byte z / 8 at weight 2^(z mod 8). -/
def lastRunFields (r : LastRun) : List (List Byte) :=
  [u8 (RunOutcome.code r.outcome), codeOrNone (r.failed.map RunFailure.code), i16 r.startPos,
   (List.range 8).map fun i => byteOf (r.cleanMask.toNat / 2 ^ (8 * i)),
   u8 r.updated, u8 r.madeStale, u8 r.madeEmpty, u16 r.runCounter.toNat]

/-- Whether a run record is open, and its start position and four marks (R118). With none open, that those five are still sent, as 0
and clear, is the model's choice (log entry 28). -/
def openRunFields (r : Option RunRecord) : List (List Byte) :=
  match r with
  | some x =>
    [flag true, i16 x.startPos, flag x.referencedAtStart, flag x.heldAtStart, flag x.unreferencedSeen, flag x.verdictMark]
  | none => [flag false, i16 0, flag false, flag false, flag false, flag false]

/-- The first zone and the number of zones reported for those asked (R118). -/
def profileSpan (first number : Nat) : Nat × Nat :=
  let z := min 63 first
  (z, min (clampNat 1 8 number) (64 - z))

/-- The content of an ASK PROFILE answer. -/
def State.profileFields (s : State) (c : Channel) (first number : Nat) : List (List Byte) :=
  let p := (s.slice c).prf
  [u8 c.val, u8 first, u8 number, u16 p.runCounter.toNat] ++
  ((p.zones.toList.drop first).take number).flatMap (zoneFields p.runCounter) ++
  lastRunFields p.lastRun ++ openRunFields p.record

/-- An ASK of topic PROFILE (R118). -/
def State.askProfile (s : State) (tag chan first number : Byte) : State :=
  match channelOfByte chan with
  | none => s.answerPlain tag .ask .malformed
  | some c =>
    let span := profileSpan first.toNat number.toNat
    let st := if span = (first.toNat, number.toNat) then Status.done else Status.clamped
    s.answer tag .ask st (s.profileFields c span.1 span.2)

/-! ### Topic INCIDENT (R124) -/

/-- The oldest tag present, which reads the next tag when the ring is empty. -/
def IncidentLog.oldestTag (l : IncidentLog) : BitVec 16 := ((l.ring.head?).map Incident.tag).getD l.nextTag

/-- The record returned for a tag, and whether it is the one asked for. -/
def IncidentLog.lookup (l : IncidentLog) (tag : BitVec 16) : Option Incident × Bool :=
  let d := (tag - l.oldestTag).toNat
  if d < l.ring.length then (l.ring[d]?, true) else (l.ring.head?, false)

/-- The content of an ASK INCIDENT answer. -/
def IncidentLog.answerFields (l : IncidentLog) (tag : BitVec 16) : List (List Byte) :=
  let r := l.lookup tag
  (match r.1 with | some x => incidentFields x | none => absentIncidentFields) ++
  [u8 l.ring.length, u16 l.oldestTag.toNat, u16 l.nextTag.toNat, flag r.2]

/-- An ASK of topic INCIDENT (R124). -/
def State.askIncident (s : State) (tag lo hi : Byte) : State :=
  s.answer tag .ask .done (s.log.answerFields (BitVec.ofNat 16 (readU16 lo hi)))

/-! ### Topics COUNTERS, LINK, SETTING and PERMIT -/

/-- Counters A, B and C, each with its select (R127). -/
def countersFields (k : Counters) : List (List Byte) :=
  [u32 k.a.value.toNat, u8 (CounterChoice.code k.a.select), u32 k.b.value.toNat, u8 (CounterChoice.code k.b.select),
   u32 k.c.value.toNat, u8 (CounterChoice.code k.c.select)]

/-- An ASK of topic COUNTERS (R127). -/
def State.askCounters (s : State) (tag chan : Byte) : State :=
  match channelOfByte chan with
  | some c => s.answer tag .ask .done (countersFields (s.slice c).ctr)
  | none => s.answerPlain tag .ask .malformed

/-- The ten counters, the reports in each queue and the urgent run (R145). That the count of URGENT stands before that of ROUTINE is the
model's choice (log entry 19). -/
def linkFields (l : Link) : List (List Byte) :=
  let k := l.counters
  [u32 k.framesOk.toNat, u32 k.dropRunt.toNat, u32 k.dropOversize.toNat, u32 k.dropGap.toNat, u32 k.dropLine.toNat,
   u32 k.dropCheck.toNat, u32 k.unknownKind.toNat, u32 k.badLength.toNat, u32 k.urgentLost.toNat, u32 k.routineLost.toNat,
   u8 l.urgent.length, u8 l.routine.length, u8 l.urgentRun]

/-- An ASK of topic LINK (R145). -/
def State.askLink (s : State) (tag : Byte) : State := s.answer tag .ask .done (linkFields s.link)

/-- An ASK of topic SETTING (R147): the item, the channel, and the active value in four bytes. For a global item, whose channel is
disregarded, that the channel byte goes back as it was received is the model's choice (log entry 28). -/
def State.askSetting (s : State) (tag item chan : Byte) : State :=
  match itemOfCode item.toNat with
  | none => s.answerPlain tag .ask .malformed
  | some (.global i) => s.answer tag .ask .done [[item], [chan], i32 (glItemValue s.globals i)]
  | some (.perChannel i) =>
    match channelOfByte chan with
    | some c => s.answer tag .ask .done [[item], [chan], i32 (chItemValue (s.slice c).cfg i)]
    | none => s.answerPlain tag .ask .malformed

/-- The content of an ASK PERMIT answer (R139). -/
def State.permitFields (s : State) (src : Source) : List (List Byte) :=
  [u8 (Source.code src)] ++ (s.perms.get (Source.index src)).toList.map (fun p => u8 (Perm.code p)) ++
  [flag (s.priv.get (Source.index src)), u8 (maskOf s.priv)]

/-- An ASK of topic PERMIT (R139). -/
def State.askPermit (s : State) (tag src : Byte) : State :=
  match sourceOfByte src with
  | some x => s.answer tag .ask .done (s.permitFields x)
  | none => s.answerPlain tag .ask .malformed

end Sys2Proof.Machine
end

