-- ==== Sys2Proof/Machine/StoreOps.lean ====
section
/-! DEFINITION. The settings store (10_stored_settings_and_start_up.md): operations on the image (R157, R158, R160), what
an accepted SET does (R154, R155), the cold start (R161) and the warm restart (R162). -/

namespace Sys2Proof.Machine

/-! ### Operations on the image -/

/-- The kind of operation a snapshot belongs to. -/
def Snapshot.kind : Snapshot → OpKind
  | .store _ => .store
  | .park _ => .park
  | .markClear _ => .markClear

/-- How long the WRITE phase of an operation lasts, in ms (R158). -/
def writeMs : OpKind → Nat
  | .store => 120 | .park => 9 | .markClear => 4

/-- How long the VERIFY phase of an operation lasts, in ms (R158). -/
def verifyMs : OpKind → Nat
  | .store => 8 | .park => 1 | .markClear => 1

/-- The size of the section an operation writes, its check included (R157). -/
def sectionBytes : OpKind → Nat
  | .store => 4096 | .park => 20 | .markClear => 20

/-- An operation begins its WRITE phase: the check of its section is invalidated first (R157, R158; log entry 3).
DESIGN CHOICE (log entry 3): the content of the section is kept until the end of WRITE, and so stands as it was where the write is aborted.
A MARK_CLEAR after an aborted PARK copies those positions. -/
def Store.beginOp (t : Store) (x : Snapshot) : Store :=
  { t with
    op := some { snapshot := x, phase := .write, left := writeMs x.kind }
    image :=
      match x with
      | .store _ => { t.image with settings := { t.image.settings with checkGood := false } }
      | .park _ | .markClear _ => { t.image with park := { t.image.park with checkGood := false } } }

/-- One shift of the check of a section, combining in 0x1021 where the bit shifted out is 1 (R157). -/
def crc16Shift (x : BitVec 16) : BitVec 16 := if x.msb then (x <<< 1) ^^^ 0x1021 else x <<< 1

/-- The check after one more byte, most significant bit first (R157). -/
def crc16Step (x : BitVec 16) (b : Byte) : BitVec 16 :=
  crc16Shift (crc16Shift (crc16Shift (crc16Shift (crc16Shift (crc16Shift (crc16Shift (crc16Shift
    (x ^^^ (b.setWidth 16 <<< 8)))))))))

/-- The check over a sequence of bytes, from a starting value. -/
def crc16From (start : BitVec 16) (bs : List Byte) : BitVec 16 := bs.foldl crc16Step start

/-- The check of a section's content (R157): starting value 0xFFFF, no final inversion. -/
def crc16 (content : List Byte) : BitVec 16 := crc16From 0xFFFF content

/-- The two bytes of a check at the end of a section, the most significant first (log entry 3). -/
def checkBytes (x : BitVec 16) : List Byte := [(x >>> 8).setWidth 8, x.setWidth 8]

/-- Whether a section of `size` bytes passes its check: its last two bytes are the check of the others (R157). -/
def passesCheck (size : Nat) (bytes : List Byte) : Bool :=
  decide (bytes.drop (size - 2) = checkBytes (crc16 (bytes.take (size - 2))))

/-- How a section of `size` bytes differs from what was to be written, one byte for each of its bytes. -/
def sectionDiff (size : Nat) (diff : List Byte) : List Byte := (diff ++ List.replicate size 0).take size

/-- Whether a section written with a good check still passes it under a difference: `passesCheck` of the bytes as they stand, which
depends on the difference alone (`passesCheck_written` in Laws/Store.lean). -/
def keepsCheck (size : Nat) (diff : List Byte) : Bool :=
  let d := sectionDiff size diff
  decide (d.drop (size - 2) = checkBytes (crc16From 0 (d.take (size - 2))))

/-- How many bytes of a section are not as they were to be written (R158). -/
def wrongBytes (size : Nat) (diff : List Byte) : Nat := ((diff.take size).filter fun b => decide (b ≠ 0)).length

/-- A section after its WRITE phase (R157, R158). Where every byte was taken it holds the snapshot under a good check. Otherwise its
check passes or fails as the CRC-16 has it, and its content, where a byte of that is wrong, is a free value (log entry 3). -/
def writtenSection {α : Type} (snapshot misread : α) (size : Nat) (diff : List Byte) : Section α :=
  if wrongBytes size diff = 0 then { content := snapshot, checkGood := true, wrong := 0 }
  else
    { content := if wrongBytes (size - 2) diff = 0 then snapshot else misread
      checkGood := keepsCheck size diff
      wrong := wrongBytes size diff }

/-- The WRITE phase ends and VERIFY begins (R157, R158). `n` numbers the free value of this write. -/
def Store.endWrite (t : Store) (diff : List Byte) (n : Nat) : Store :=
  match t.op with
  | some { snapshot := x, phase := .write, left := _ } =>
    { t with
      op := some { snapshot := x, phase := .verify, left := verifyMs x.kind }
      image :=
        match x with
        | .store y =>
          { t.image with settings := writtenSection y (Config.misreadSettings n) (sectionBytes .store) diff }
        | .park y =>
          { t.image with park := writtenSection y (Config.misreadPark n) (sectionBytes .park) diff }
        | .markClear y =>
          { t.image with park := writtenSection y (Config.misreadPark n) (sectionBytes .markClear) diff } }
  | _ => t

/-- How many bytes of the section an operation has written differ from its snapshot (R158). -/
def Store.mismatch (t : Store) (k : OpKind) : Nat :=
  match k with
  | .store => t.image.settings.wrong
  | .park | .markClear => t.image.park.wrong

/-- The VERIFY phase ends the operation and queues its STORED notice (R158). -/
def State.endVerify (s : State) : State :=
  match s.store.op with
  | some { snapshot := x, phase := .verify, left := _ } =>
    (s.modStore fun t => { t with op := none }).queueReport .stored (.stored x.kind (s.store.mismatch x.kind))
  | _ => s

/-- A MARK_CLEAR begins when clear-due is set and no operation is in flight (R160; a step of its own, log entry 12). -/
def Store.beginMarkClear (t : Store) : Store :=
  if t.clearDue ∧ t.op = none then
    { t with clearDue := false, markStanding := false }.beginOp
      (.markClear { positions := t.image.park.content.positions, mark := false })
  else t

/-- The SETTINGS content as the active state now stands (R157, R159). -/
def State.settingsNow (s : State) : SettingsContent where
  globals := s.globals
  channels := s.ch.map Slice.cfg
  perms := s.perms
  priv := s.priv
  zones := s.ch.map fun sl => sl.prf.zones
  runCounters := s.ch.map fun sl => sl.prf.runCounter

/-- The PARK content as the trackers now stand, with a set mark (R160; 16 bits a position, log entry 23). -/
def State.parkNow (s : State) : ParkContent where
  positions := s.ch.map fun sl => BitVec.ofInt 16 sl.trk.position
  mark := true

/-! ### What an accepted SET does -/

/-- The state a taken TRAVEL changes beside the settings (R14, R117): the reference is dropped, the profile emptied. -/
def State.travelChanged (s : State) (c : Channel) : State :=
  let s1 := s.modTrk c fun t => { t with referenced := false }
  let s2 := s1.modPrf c fun p => { p with zones := emptyZones }
  s2.noticeReferenced c (referencedChanged s s2 c)

/-- What follows from a taken per-channel item in the rest of the part (R14, R35, R37, R54, R91, R114, R115). -/
def State.chItemEffect (s : State) (c : Channel) (i : ChItem) : State :=
  let cfg := (s.slice c).cfg
  match i with
  | .travel => s.travelChanged c
  | .winLen => s.modVdu c fun v => { v with window := v.window.take cfg.winLen }
  | .bFloor | .bCeil => s.modPrf c fun p => p.underBounds cfg.bFloor cfg.bCeil
  | .sMax => s.modPrf c fun p => p.underSpread cfg.sMax
  | .nHeld => s.modCtl c fun t => { t with streak := min t.streak cfg.nHeld }
  | .creditMax => s.modCtl c fun t => { t with credit := min t.credit cfg.creditMax }
  | .iStart | .iRun | .kind => s.scan
  | _ => s

/-- A per-channel item takes a value (R154 tests 4 and 5). -/
def State.setChItem (s : State) (c : Channel) (i : ChItem) (v : Int) : State :=
  (s.modCfg c fun cfg => chItemFollow s.globals i (putChItem cfg i v)).chItemEffect c i

/-- A global item takes a value: BUDGET lowers the charges above it and causes a scan (R57), U_SAG lowers U_CUT (R62). -/
def State.setGlItem (s : State) (i : GlItem) (v : Int) : State :=
  let g := putGlItem s.globals i v
  match i with
  | .budget => State.scan { s with globals := g, ch := s.ch.map fun sl => { sl with cfg := underBudget g.budget sl.cfg } }
  | .uSag => { s with globals := underSag g }
  | _ => { s with globals := g }

/-- Whether any channel holds a grant. -/
def State.anyGrant (s : State) : Bool := s.ch.toList.any fun sl => sl.arb.held

/-- Whether a value names a member of the enumeration an item takes, MODE excepted (R154 test 1). -/
def itemValueNames (i : ChItem) (v : Int) : Bool :=
  match i with
  | .kind => (kindOfCode v).isSome
  | _ => true

/-- Test 3 of R154 for a per-channel item: TRAVEL while the channel is neither IDLE nor FAULTED. -/
def State.chItemBusy (s : State) (c : Channel) (i : ChItem) : Bool :=
  match i with
  | .travel => decide ((s.slice c).ctl.motion ≠ .idle) && decide ((s.slice c).ctl.motion ≠ .faulted)
  | _ => false

/-- Test 3 of R154 for a global item: BUDGET while any grant is held. -/
def State.glItemBusy (s : State) (i : GlItem) : Bool :=
  match i with
  | .budget => s.anyGrant
  | _ => false

/-- What a SET comes to (R154): an answer without effect, or a value taken, CLAMPED when it is not the value sent. -/
inductive SetOutcome where
  | refused (st : Status)
  | taken (clamped : Bool) (v : Int)
  deriving DecidableEq, Repr

/-- The tests of R154 for a per-channel item of an existing channel, test 1 passed as to the item. -/
def State.judgeChItem (s : State) (c : Channel) (i : ChItem) (v : Int) : SetOutcome :=
  if itemValueNames i v = false then .refused .malformed
  else if s.store.locked then .refused .locked
  else if s.chItemBusy c i then .refused .busy
  else
    let t := chItemTaken s.globals (s.slice c).cfg i v
    .taken (decide (t ≠ v)) t

/-- The tests of R154 for a global item. -/
def State.judgeGlItem (s : State) (i : GlItem) (v : Int) : SetOutcome :=
  if s.store.locked then .refused .locked
  else if s.glItemBusy i then .refused .busy
  else
    let t := glItemTaken s.globals i v
    .taken (decide (t ≠ v)) t

/-! ### The cold start (R161) -/

/-- Every block at its cold-start values, with the image loaded and the Hall pairs as they now stand (R161). The commands that
wait, the image, the input pins and the count of free values are kept. -/
def State.coldStarted (s : State) : State :=
  let x := loadedContent s.store.image.settings
  let pk := s.store.image.park
  let pos := fun (c : Channel) => parkedPosition (x.channels.get c).travel pk.checkGood pk.content.mark
    (pk.content.positions.get c).toInt
  { s with
    power := .running
    timeBase := 0
    ch := Octet.ofFn fun c =>
      coldSlice (x.channels.get c) (x.zones.get c) (x.runCounters.get c) (s.pins.get c).hall (pos c)
    globals := x.globals
    queue := []
    supply := startSupply
    motion := coldBodyMotion
    vehicle := coldVehicle
    log := coldLog
    tap := startTap
    perms := x.perms
    priv := x.priv
    link := coldLink
    store :=
      { locked := x.globals.lockAtStart
        op := none
        markStanding := pk.checkGood && pk.content.mark
        clearDue := false
        image := s.store.image } }

/-- The part held at its start (R63): a brown-out, or power just applied. Every block at its cold-start values, outputs OFF, an
operation in flight aborted, nothing taken until the supply is back. -/
def State.heldAtStart (s : State) : State := { s.coldStarted with power := .held }

/-! ### The warm restart (R162) -/

/-- A channel slice at a warm restart (R16, R45, R51, R58, R84, R102, R119, R129). -/
def Slice.warm (sl : Slice) : Slice :=
  { sl with
    trk := { sl.trk with history := [], longPast := true }
    ctl := coldController (min sl.ctl.credit sl.cfg.creditMax)
    drv := startDrive sl.cfg.dStart
    arb := startGrant
    est := startEstimator
    vdu := startVerdictUnit
    prf := { sl.prf with record := none } }

/-- The body link at a warm restart (R153): a report on the line is finished first. -/
def Link.warm (l : Link) : Link :=
  { l with parser := huntParser, urgent := [], routine := [], urgentRun := 0 }

/-- Every block at its warm-restart values (R1, R64, R84, R85, R125, R131, R133, R153, R162). -/
def State.warmRestarted (s : State) : State :=
  { s with
    ch := s.ch.map Slice.warm
    queue := []
    supply := startSupply
    motion := { coldBodyMotion with rest := s.motion.rest }
    vehicle := { s.vehicle with speed := none, speedTimer := none }
    tap := startTap
    link := s.link.warm
    store := { s.store with locked := s.globals.lockAtStart, op := none } }

end Sys2Proof.Machine
end

