-- ==== Sys2Proof/Machine/Requests.lean ====
section
/-! DEFINITION. Requests (08_sources_and_permissions.md, section 9.2): the taking of a frame whose check agrees (R144), the source
filter (R132 to R138), and what each request does in the block that owns it. -/

namespace Sys2Proof.Machine

/-- The byte of a payload at an index. A request payload is read only when its length is the catalogue's (R144). -/
def byteAt (p : List Byte) (i : Nat) : Byte := (p[i]?).getD 0

/-! ### The classes of the source filter (R132) -/

/-- The four classes of request. -/
inductive RequestClass where
  | move | halt | open_ | sensitive
  deriving DecidableEq, Repr

/-- The class of a request kind (R132). -/
def requestClass : RequestKind → RequestClass
  | .move => .move
  | .halt => .halt
  | .vehicle | .ask | .tap | .countSelect => .open_
  | .set | .lock | .permit | .forget | .clearFault | .store | .park | .restart => .sensitive

/-! ### MOVE and HALT (R134 to R136) -/

/-- The disposal of one channel's part of a MOVE, by the entry of the source as the table now stands (R134). -/
def State.movePart (s : State) (src : Source) (mode : MoveMode) (dir : Dir) (target : Nat) (c : Channel) :
    State × Status :=
  match (s.perms.get (Source.index src)).get c with
  | .allow => s.takePart c mode dir target src
  | .deny => (s, .denied)
  | .refer => (s, .referred)

/-- The channels of a mask disposed of one after the other, with their outcomes (R134). -/
def State.moveParts (src : Source) (mode : MoveMode) (dir : Dir) (target : Nat) :
    List Channel → State → State × List (Channel × Status)
  | [], s => (s, [])
  | c :: cs, s =>
    let r := s.movePart src mode dir target c
    let t := State.moveParts src mode dir target cs r.1
    (t.1, (c, r.2) :: t.2)

/-- The referred set of a MOVE, as a channel mask (R135). -/
def referredMask (outcomes : List (Channel × Status)) : Byte :=
  outcomes.foldl (fun m o => if o.2 = .referred then m ||| (1 <<< o.1.val) else m) 0

/-- The direction of a MOVE: the byte of a TARGET move is not tested (R146, R18). -/
def moveDirection (mode : MoveMode) (b : Byte) : Option Dir :=
  match mode with
  | .target => some .closing
  | .manual | .express => dirOfByte b

/-- A MOVE (R134, R135): malformed before any channel is disposed of, otherwise each channel, the answer, and the REFER notice. -/
def State.carryMove (s : State) (p : List Byte) (src : Source) : State :=
  let tag := byteAt p 0
  match moveModeOfByte (byteAt p 4) with
  | none => s.answerPlain tag .move .malformed
  | some mode =>
    match moveDirection mode (byteAt p 3) with
    | none => s.answerPlain tag .move .malformed
    | some dir =>
      let r := State.moveParts src mode dir (readU16 (byteAt p 5) (byteAt p 6)) (channelsOf (byteAt p 2)) s
      let s1 := r.1.answer tag .move .done (r.2.map fun o => u8 (Status.code o.2))
      if r.2.any fun o => decide (o.2 = .referred) then
        s1.queueReport .refer (.refer tag 0x01 (byteAt p 1) (referredMask r.2)
          [byteAt p 4, byteAt p 3, byteAt p 5, byteAt p 6])
      else s1

/-- A HALT (R136): every channel of the mask in ascending number, each with outcome DONE. -/
def State.carryHalt (s : State) (p : List Byte) : State :=
  let cs := channelsOf (byteAt p 2)
  (cs.foldl State.haltPart s).answer (byteAt p 0) .halt .done (cs.map fun _ => u8 (Status.code .done))

/-! ### Open requests -/

/-- A VEHICLE (R81). -/
def State.carryVehicle (s : State) (p : List Byte) : State :=
  let t := clampInt (-40) 125 (readI8 (byteAt p 3))
  let s1 := { s with
    vehicle := { speed := some (byteAt p 2).toNat, speedTimer := some 1000, temp := t, tempKnown := true } }
  if t = readI8 (byteAt p 3) then s1.answerPlain (byteAt p 0) .vehicle .done
  else s1.answerClamped (byteAt p 0) .vehicle t

/-- An ASK, by its topic (R147). -/
def State.carryAsk (s : State) (p : List Byte) : State :=
  let tag := byteAt p 0
  match (byteAt p 2).toNat with
  | 0 => s.askChannel tag (byteAt p 3) (byteAt p 4)
  | 1 => s.askProfile tag (byteAt p 3) (byteAt p 4) (byteAt p 5)
  | 2 => s.askIncident tag (byteAt p 3) (byteAt p 4)
  | 3 => s.askCounters tag (byteAt p 3)
  | 4 => s.askLink tag
  | 5 => s.askSetting tag (byteAt p 3) (byteAt p 4)
  | 6 => s.askPermit tag (byteAt p 3)
  | _ => s.answerPlain tag .ask .malformed

/-- The phases a phase byte names: none with a bit above weight 4 (section 9.6). -/
def phaseSetOfByte (b : Byte) : Option PhaseSet :=
  if b.toNat < 8 then some { closing := b.getLsbD 0, opening := b.getLsbD 1, reversing := b.getLsbD 2 } else none

/-- The tap as a TAP leaves it (R130): none where the request is malformed. -/
def tapOf (chan phases onOff : Byte) : Option Tap :=
  match onOff.toNat with
  | 0 => some startTap
  | 1 =>
    match channelOfByte chan, phaseSetOfByte phases with
    | some c, some ph =>
      if ph.closing || ph.opening || ph.reversing then some { channel := some c, phases := ph, skipped := 0 }
      else some startTap
    | _, _ => none
  | _ => none

/-- A TAP (R130). -/
def State.carryTap (s : State) (p : List Byte) : State :=
  match tapOf (byteAt p 2) (byteAt p 3) (byteAt p 4) with
  | some t => ({ s with tap := t }).answerPlain (byteAt p 0) .tap .done
  | none => s.answerPlain (byteAt p 0) .tap .malformed

/-- The counters under a select of one of them (R128): none where the choice belongs to another counter or the counter byte
names none. -/
def Counters.aim (k : Counters) (counter : Byte) (choice : CounterChoice) : Option Counters :=
  match counter.toNat, choice with
  | 0, .closeRuns | 0, .openRuns | 0, .bandReversals | 0, .stallReversals =>
    some { k with a := { value := 0, select := choice } }
  | 1, .samples | 1, .invalidSamples | 1, .watchSamples | 1, .tripSamples =>
    some { k with b := { value := 0, select := choice } }
  | 2, .hallInvalid | 2, .disturbedSamples | 2, .zoneUpdates | 2, .thermalRefusals =>
    some { k with c := { value := 0, select := choice } }
  | _, _ => none

/-- A COUNT_SELECT (R128). -/
def State.carryCountSelect (s : State) (p : List Byte) : State :=
  let tag := byteAt p 0
  match channelOfByte (byteAt p 2), counterChoiceOfByte (byteAt p 4) with
  | some c, some ch =>
    match (s.slice c).ctr.aim (byteAt p 3) ch with
    | some k => (s.modCtr c fun _ => k).answerPlain tag .countSelect .done
    | none => s.answerPlain tag .countSelect .malformed
  | _, _ => s.answerPlain tag .countSelect .malformed

/-! ### Sensitive requests of a privileged source -/

/-- What follows a judged SET: its effects, then its answer (R154). -/
def State.answerSet (s : State) (tag : Byte) (o : SetOutcome) (take : Int → State) : State :=
  match o with
  | .refused st => s.answerPlain tag .set st
  | .taken false v => (take v).answerPlain tag .set .done
  | .taken true v => (take v).answerClamped tag .set v

/-- A SET (R154). -/
def State.carrySet (s : State) (p : List Byte) : State :=
  let tag := byteAt p 0
  let v := readI32 (byteAt p 4) (byteAt p 5) (byteAt p 6) (byteAt p 7)
  match itemOfCode (byteAt p 2).toNat with
  | none => s.answerPlain tag .set .malformed
  | some (.global i) => s.answerSet tag (s.judgeGlItem i v) (s.setGlItem i)
  | some (.perChannel i) =>
    match channelOfByte (byteAt p 3) with
    | none => s.answerPlain tag .set .malformed
    | some c => s.answerSet tag (s.judgeChItem c i v) (s.setChItem c i)

/-- A LOCK (R156). -/
def State.carryLock (s : State) (p : List Byte) : State :=
  (s.modStore fun t => { t with locked := true }).answerPlain (byteAt p 0) .lock .done

/-- The row of eight permissions of a PERMIT: none if any byte names none (R138). -/
def permitRow (p : List Byte) : Option (Octet Perm) :=
  match permOfByte (byteAt p 3), permOfByte (byteAt p 4), permOfByte (byteAt p 5), permOfByte (byteAt p 6),
    permOfByte (byteAt p 7), permOfByte (byteAt p 8), permOfByte (byteAt p 9), permOfByte (byteAt p 10) with
  | some a0, some a1, some a2, some a3, some a4, some a5, some a6, some a7 => some ⟨a0, a1, a2, a3, a4, a5, a6, a7⟩
  | _, _, _, _, _, _, _, _ => none

/-- The privileged flag of a PERMIT. -/
def flagOfByte (b : Byte) : Option Bool :=
  match b.toNat with
  | 0 => some false | 1 => some true | _ => none

/-- Whether a source is the only member of the privileged set (R138). -/
def onlyMember (priv : Octet Bool) (src : Source) : Bool :=
  priv.get (Source.index src) && decide ((priv.set (Source.index src) false).toList.all fun b => !b)

/-- A PERMIT (R138). -/
def State.carryPermit (s : State) (p : List Byte) : State :=
  let tag := byteAt p 0
  match sourceOfByte (byteAt p 2), permitRow p, flagOfByte (byteAt p 11) with
  | some src, some row, some f =>
    let kept := !f && onlyMember s.priv src
    let s1 := { s with
      perms := s.perms.set (Source.index src) row
      priv := s.priv.set (Source.index src) (f || kept) }
    if kept then s1.answerClamped tag .permit 1 else s1.answerPlain tag .permit .done
  | _, _, _ => s.answerPlain tag .permit .malformed

/-- A FORGET (R116). -/
def State.carryForget (s : State) (p : List Byte) : State :=
  match channelOfByte (byteAt p 2) with
  | some c => (s.modPrf c Profile.forget).answerPlain (byteAt p 0) .forget .done
  | none => s.answerPlain (byteAt p 0) .forget .malformed

/-- A CLEAR_FAULT (R41): carried out for a FAULTED channel, no change for any other, answered DONE. -/
def State.carryClearFault (s : State) (p : List Byte) : State :=
  match channelOfByte (byteAt p 2) with
  | some c =>
    (if (s.slice c).ctl.motion = .faulted then s.clearFaulted c else s).answerPlain (byteAt p 0) .clearFault .done
  | none => s.answerPlain (byteAt p 0) .clearFault .malformed

/-- A STORE (R158, R159). -/
def State.carryStore (s : State) (p : List Byte) : State :=
  match s.store.op with
  | some _ => s.answerPlain (byteAt p 0) .store .busy
  | none => (s.modStore fun t => t.beginOp (.store s.settingsNow)).answerPlain (byteAt p 0) .store .done

/-- Every channel is IDLE and referenced (R160). -/
def State.allParked (s : State) : Bool :=
  s.ch.toList.all fun sl => decide (sl.ctl.motion = .idle) && sl.trk.referenced

/-- A PARK (R158, R160). DESIGN CHOICE (log entry 12): one taken ahead of a MARK_CLEAR that waits clears clear-due as R160 has every
acceptance do, so that no MARK_CLEAR follows it. -/
def State.carryPark (s : State) (p : List Byte) : State :=
  match s.store.op with
  | some _ => s.answerPlain (byteAt p 0) .park .busy
  | none =>
    if s.allParked then
      (s.modStore fun t => { t with markStanding := true, clearDue := false }.beginOp (.park s.parkNow)).answerPlain
        (byteAt p 0) .park .done
    else s.answerPlain (byteAt p 0) .park .busy

/-- A RESTART (R162): its answer is queued after the queues have been emptied (R153). -/
def State.carryRestart (s : State) (p : List Byte) : State :=
  if s.anyGrant ∨ s.queue ≠ [] then s.answerPlain (byteAt p 0) .restart .busy
  else s.warmRestarted.answerPlain (byteAt p 0) .restart .done

/-! ### The source filter -/

/-- A request passed to the block that owns it, by its kind. -/
def State.carryOut (s : State) (k : RequestKind) (p : List Byte) (src : Source) : State :=
  match k with
  | .move => s.carryMove p src
  | .halt => s.carryHalt p
  | .vehicle => s.carryVehicle p
  | .ask => s.carryAsk p
  | .set => s.carrySet p
  | .lock => s.carryLock p
  | .permit => s.carryPermit p
  | .forget => s.carryForget p
  | .clearFault => s.carryClearFault p
  | .tap => s.carryTap p
  | .countSelect => s.carryCountSelect p
  | .store => s.carryStore p
  | .park => s.carryPark p
  | .restart => s.carryRestart p

/-- A sensitive request of a source outside the privileged set (R135, R137): REFERRED, then its REFER notice. -/
def State.referRequest (s : State) (k : RequestKind) (p : List Byte) : State :=
  (s.answerPlain (byteAt p 0) k .referred).queueReport .refer
    (.refer (byteAt p 0) (byteOf k.code) (byteAt p 1) 0 (p.drop 2))

/-- A well-formed request taken by the source filter (R132). -/
def State.takeRequest (s : State) (k : RequestKind) (p : List Byte) : State :=
  match sourceOfByte (byteAt p 1) with
  | none => s.answerPlain (byteAt p 0) k .malformed
  | some src =>
    if requestClass k = .sensitive ∧ s.priv.get (Source.index src) = false then s.referRequest k p
    else s.carryOut k p src

/-- A MALFORMED answer of R144: the kind byte as received, and the first payload byte as tag, 0 when there is none. -/
def State.answerBadFrame (s : State) (kind : Byte) (p : List Byte) : State :=
  s.queueReport .answerOther (.answer (byteAt p 0) kind .malformed [])

/-- A frame whose check agrees is taken (R144). -/
def State.takeFrame (s : State) (kind : Byte) (p : List Byte) : State :=
  match requestKindOfByte kind with
  | none => (s.modCounters fun k => { k with unknownKind := k.unknownKind + 1 }).answerBadFrame kind p
  | some k =>
    if p.length = payloadLength k then
      (s.modCounters fun n => { n with framesOk := n.framesOk + 1 }).takeRequest k p
    else (s.modCounters fun n => { n with badLength := n.badLength + 1 }).answerBadFrame kind p

end Sys2Proof.Machine
end

