-- ==== Sys2Proof/Machine/Receive.lean ====
section
/-! DEFINITION. The receive side of the body link (section 9.1): the parser (R142), its check (R143), line errors (R141) and
gap expiries (R142). -/

namespace Sys2Proof.Machine

/-- The gap timer as a byte starts it: 1 ms (R142). -/
def gapMs : Nat := 1

/-- The parser takes new contents. -/
def State.setParser (s : State) (p : Parser) : State := s.modLink fun l => { l with parser := p }

/-- A frame in progress: the parser is in LENGTH, BODY or CHECK (R141). -/
def Parser.inFrame (p : Parser) : Bool :=
  match p.state with
  | .hunt => false
  | .length | .body | .check => true

/-- A byte taken in HUNT (R142). -/
def State.huntByte (s : State) (b : Byte) : State :=
  if b = 0x5A then s.setParser { state := .length, length := 0, bytes := [], crc := 0xFF, gapTimer := some gapMs } else s

/-- A byte taken in LENGTH (R142): the length is kept when it lies within 1..48, otherwise the frame is discarded. -/
def State.lengthByte (s : State) (b : Byte) : State :=
  if b.toNat = 0 then (s.setParser huntParser).modCounters fun k => { k with dropRunt := k.dropRunt + 1 }
  else if 48 < b.toNat then (s.setParser huntParser).modCounters fun k => { k with dropOversize := k.dropOversize + 1 }
  else
    s.setParser
      { state := .body, length := b.toNat, bytes := [], crc := crc8Step s.link.parser.crc b, gapTimer := some gapMs }

/-- A byte taken in BODY (R142): kept and taken into the check. The last one brings CHECK. -/
def State.bodyByte (s : State) (b : Byte) : State :=
  let p := s.link.parser
  s.setParser
    { p with
      bytes := p.bytes ++ [b]
      crc := crc8Step p.crc b
      state := if p.length ≤ p.bytes.length + 1 then .check else .body
      gapTimer := some gapMs }

/-- A byte taken in CHECK (R142, R143): the frame is complete when it equals the running check. -/
def State.checkByte (s : State) (b : Byte) : State :=
  let p := s.link.parser
  let s1 := s.setParser huntParser
  if b = p.crc then s1.takeFrame (byteAt p.bytes 0) (p.bytes.drop 1)
  else s1.modCounters fun k => { k with dropCheck := k.dropCheck + 1 }

/-- A byte received normally (R142). -/
def State.takeByte (s : State) (b : Byte) : State :=
  match s.link.parser.state with
  | .hunt => s.huntByte b
  | .length => s.lengthByte b
  | .body => s.bodyByte b
  | .check => s.checkByte b

/-- A line error (R141): a frame in progress is discarded and counted. In HUNT the byte is skipped. -/
def State.takeLineError (s : State) : State :=
  if s.link.parser.inFrame then (s.setParser huntParser).modCounters fun k => { k with dropLine := k.dropLine + 1 } else s

/-- The gap timer runs out (R142). While it is stopped no frame is in progress and nothing happens. -/
def State.takeGapExpiry (s : State) : State :=
  match s.link.parser.gapTimer with
  | some _ => (s.setParser huntParser).modCounters fun k => { k with dropGap := k.dropGap + 1 }
  | none => s

end Sys2Proof.Machine
end

