-- ==== Sys2Proof/Machine/Supply.lean ====
section
/-! DEFINITION. The supply monitor (section 3.3): one sample through the tests of R59, and the hold at the start of R63. -/

namespace Sys2Proof.Machine

/-- A sample below 5 500 mV is a brown-out (R63). -/
def brownOutLevel : Nat := 5500

/-- The supply-sense input saturates at 20 000 mV (R59). -/
def supplyLimit (mV : Nat) : Nat := min 20000 mV

/-- What the part does only while it operates: held at its start it takes nothing (R63, R153, R161; log entry 4). -/
def State.whenRunning (s : State) (f : State → State) : State :=
  match s.power with
  | .running => f s
  | .held => s

/-- Whether a sample is a step (R60): the history is full and the sample 8 ms earlier lies U_STEP or more away. -/
def isStep (uStep : Nat) (history : List Nat) (v : Nat) : Bool :=
  match history with
  | old :: _ => decide (history.length = 8) && decide (uStep ≤ ((v : Int) - old).natAbs)
  | [] => false

/-- The step test (R60): a step opens the window or restarts its timer. -/
def SupplyMonitor.stepTest (m : SupplyMonitor) (uStep stepMs v : Nat) : SupplyMonitor :=
  if isStep uStep m.history v then { m with stepWindow := some stepMs } else m

/-- The sag test (R61): a sample that clears the flag makes the arbiter scan. -/
def State.sagTest (s : State) (v : Nat) : State :=
  if v < s.globals.uSag then { s with supply := { s.supply with sag := true } }
  else if s.supply.sag then State.scan { s with supply := { s.supply with sag := false } }
  else s

/-- The cut test (R62): the sample that raises the count to 20 cuts every channel, in ascending number. That each channel's incident
and notices come before the next channel's is the model's choice (log entry 26). -/
def State.cutTest (s : State) (v : Nat) : State :=
  if v < s.globals.uCut then
    let s1 := { s with supply := { s.supply with cutCount := min 20 (s.supply.cutCount + 1) } }
    if s.supply.cutCount = 19 then (List.finRange 8).foldl State.cutChannel s1 else s1
  else { s with supply := { s.supply with cutCount := 0 } }

/-- The history after a sample (R59): the newest at the end, at most 8 kept. -/
def supplyPush (history : List Nat) (v : Nat) : List Nat :=
  let l := history ++ [v]
  if 8 < l.length then l.drop 1 else l

/-- A sample taken by an operating part (R59 to R63). -/
def State.supplyTests (s : State) (mV : Nat) : State :=
  let v := supplyLimit mV
  if v < brownOutLevel then s.heldAtStart
  else
    let s1 := { s with supply := { s.supply with value := v }.stepTest s.globals.uStep s.globals.stepMs v }
    let s2 := (s1.sagTest v).cutTest v
    { s2 with supply := { s2.supply with history := supplyPush s2.supply.history v } }

/-- A sample of the supply feed (R59, R63): a part held at its start begins at a sample at or above 5 500 mV, which the monitor
does not take as its first (log entry 7). -/
def State.takeSupply (s : State) (mV : Nat) : State :=
  match s.power with
  | .running => s.supplyTests mV
  | .held => if supplyLimit mV < brownOutLevel then s else s.coldStarted

end Sys2Proof.Machine
end

