-- ==== Sys2Proof/Machine/Clock.lean ====
section
/-! DEFINITION. What time does: the expiries of the timers (R25, R36, R50, R60, R68, R82, R99), the once-per-ms checks of a channel
(R37 to R39), the µs of the time base (R1, R3, R69) and the ms of the log clock (R120). -/

namespace Sys2Proof.Machine

/-! ### Expiries. A timer that is stopped does not expire, and one that runs does whatever time it has left (log entry 10). -/

/-- The hold timer runs out (R25). -/
def State.holdExpiry (s : State) (c : Channel) : State :=
  match (s.slice c).ctl.holdTimer with
  | none => s
  | some _ =>
    let s1 := s.modCtl c fun t => { t with holdTimer := none }
    match (s.slice c).ctl.motion with
    | .waiting => s1.cancelWaiting c .holdLapsed
    | .closing | .opening => s1.brakeToIdle c .holdLapsed
    | .braking =>
      match (s.slice c).ctl.afterBrake with
      | .requeue => s1.modCtl c fun t => { t with slot := none, afterBrake := .goIdle, endReason := some .holdLapsed }
      | .goIdle | .reverse => s1
    | .idle | .reversing | .faulted => s1

/-- The held timer runs out (R36, R44): the held flag is cleared and the streak set to N_HELD − 1. -/
def State.heldExpiry (s : State) (c : Channel) : State :=
  match (s.slice c).ctl.heldTimer with
  | none => s
  | some _ =>
    let n := (s.slice c).cfg.nHeld
    let s1 := s.modCtl c fun t => { t with held := false, streak := n - 1, heldTimer := none }
    s1.noticeHeld c (heldChanged s s1 c)

/-- Brake quiet of a braking channel (R28, R50). -/
def State.brakeQuiet (s : State) (c : Channel) : State := (s.modDrv c Drive.quiet).takeQuiet c

/-- The silence timer runs out (R50). -/
def State.silenceExpiry (s : State) (c : Channel) : State :=
  match (s.slice c).drv.silence with
  | some _ => s.brakeQuiet c
  | none => s

/-- The brake-limit timer runs out (R50). -/
def State.brakeLimitExpiry (s : State) (c : Channel) : State :=
  match (s.slice c).drv.brakeLimit with
  | some _ => s.brakeQuiet c
  | none => s

/-- The stall timer runs out (R98, R99): it stays stopped for the rest of the phase, and the controller takes the expiry. -/
def State.stallTimerExpiry (s : State) (c : Channel) : State :=
  match (s.slice c).vdu.stallTimer with
  | some _ => (s.modVdu c fun v => { v with stallTimer := none }).takeStall c
  | none => s

/-- The blanking timer runs out (R68): start blanking ends and the charge falls. -/
def State.blankingExpiry (s : State) (c : Channel) : State :=
  match (s.slice c).est.blankTimer with
  | some _ => (s.modEst c fun e => { e with blankTimer := none }).lowerCharge c
  | none => s

/-- The speed timer runs out (R82). -/
def VehicleData.expire (v : VehicleData) : VehicleData :=
  match v.speedTimer with
  | some _ => { v with speed := none, speedTimer := none }
  | none => v

/-- The timer of the step window runs out (R60). -/
def SupplyMonitor.closeWindow (m : SupplyMonitor) : SupplyMonitor := { m with stepWindow := none }

/-! ### The once-per-ms work of a channel -/

/-- The recovery count raised by one ms (R37): at RECOVER, or above it (log entry 21), it returns to 0 and the
credit rises, to no more than CREDIT_MAX. -/
def Controller.recover (t : Controller) (recover creditMax : Nat) : Controller :=
  if recover ≤ t.recovery + 1 then { t with recovery := 0, credit := min creditMax (t.credit + 1) }
  else { t with recovery := t.recovery + 1 }

/-- The credit lowered by one driven ms (R37). -/
def Controller.spend (t : Controller) : Controller := { t with credit := t.credit - 1 }

/-- A ms of a channel as its run credit counts it (R37), with the thermal limit of R38. -/
def State.creditTick (s : State) (c : Channel) : State :=
  let cfg := (s.slice c).cfg
  match (s.slice c).ctl.motion with
  | .closing | .reversing => s.modCtl c Controller.spend
  | .opening =>
    let s1 := s.modCtl c Controller.spend
    if (s1.slice c).ctl.credit = 0 then s1.brakeToIdle c .thermalLimit else s1
  | .idle | .waiting | .faulted => s.modCtl c fun t => t.recover cfg.recover cfg.creditMax
  | .braking => s

/-- The ms in which the recovery count reaches RECOVER (R37); any other ms is none of this row's (log entry 11). -/
def State.recoveryTick (s : State) (c : Channel) : State :=
  let t := (s.slice c).ctl
  match t.motion with
  | .idle | .waiting | .faulted => if (s.slice c).cfg.recover ≤ t.recovery + 1 then s.creditTick c else s
  | .closing | .opening | .reversing | .braking => s

/-- A ms in OPENING with a credit of 0 (R38, log entry 11). -/
def State.thermalTick (s : State) (c : Channel) : State :=
  let t := (s.slice c).ctl
  match t.motion with
  | .opening => if t.credit = 0 then s.brakeToIdle c .thermalLimit else s
  | .idle | .waiting | .closing | .reversing | .braking | .faulted => s

/-- The threshold of the overcurrent check, in mA (R39). -/
def overcurrentLevel : Nat := 38000

/-- A check of the current sense (R39): five in a row at or above the threshold fault the channel (R40). -/
def State.currentCheck (s : State) (c : Channel) (mA : Nat) : State :=
  match (s.slice c).drv.mode with
  | .off => s.modCtl c fun t => { t with overcurrent := 0 }
  | .drive | .brake =>
    if mA < overcurrentLevel then s.modCtl c fun t => { t with overcurrent := 0 }
    else
      let s1 := s.modCtl c fun t => { t with overcurrent := min 5 (t.overcurrent + 1) }
      if 5 ≤ (s.slice c).ctl.overcurrent + 1 then
        (s1.submit (s1.incidentNow c .overcurrent)).enterFaulted c .overcurrent false
      else s1

/-- The fifth consecutive check at or above the threshold (R39); any other check is none of this row's (log entry 11). -/
def State.fifthCheck (s : State) (c : Channel) (mA : Nat) : State :=
  if (s.slice c).ctl.overcurrent = 4 ∧ overcurrentLevel ≤ mA ∧ (s.slice c).drv.mode ≠ .off then s.currentCheck c mA else s

/-- A ms of the duty ramp (R48). -/
def State.rampTick (s : State) (c : Channel) : State :=
  let sl := s.slice c
  s.modDrv c fun d => d.rampTick sl.cfg sl.trk.referenced sl.trk.position

/-! ### The µs of the time base -/

/-- A tracker while `micros` µs pass from `now` (R3): the long-past marker is set 65 535 µs after the last edge. -/
def Tracker.pass (t : Tracker) (now : BitVec 32) (micros : Nat) : Tracker :=
  if 65535 ≤ (now - t.lastStamp).toNat + micros then { t with longPast := true } else t

/-- `micros` µs of the time base with the same readings at each (R1, R3, R69; log entry 5). -/
def State.passMicros (s : State) (micros : Nat) (readings : Octet Nat) : State :=
  { s with
    timeBase := s.timeBase + BitVec.ofNat 32 micros
    ch := Octet.ofFn fun c =>
      let sl := s.slice c
      { sl with
        trk := sl.trk.pass s.timeBase micros
        est := { sl.est with readings := accumulate (senseLimit (readings.get c)) micros sl.est.readings } } }

/-- The current-sense inputs take new readings. -/
def State.setCurrentPins (s : State) (readings : Octet Nat) : State :=
  { s with pins := Octet.ofFn fun c => { s.pins.get c with current := senseLimit (readings.get c) } }

/-! ### The ms of the log clock -/

/-- A timer one ms later. One that has reached 0 waits there for its expiry to be taken. -/
def Timer.tick (t : Timer) : Timer := t.map fun n => n - 1

/-- The timers of a channel one ms later. -/
def Slice.tick (sl : Slice) : Slice :=
  { sl with
    ctl := { sl.ctl with holdTimer := Timer.tick sl.ctl.holdTimer, heldTimer := Timer.tick sl.ctl.heldTimer }
    drv := { sl.drv with silence := Timer.tick sl.drv.silence, brakeLimit := Timer.tick sl.drv.brakeLimit }
    est := { sl.est with blankTimer := Timer.tick sl.est.blankTimer }
    vdu := { sl.vdu with stallTimer := Timer.tick sl.vdu.stallTimer } }

/-- One ms of the log clock (R120): the clock rises by 1, and every running timer has one ms less left (log entry 6). -/
def State.passMs (s : State) : State :=
  { s with
    log := { s.log with clock := s.log.clock + 1 }
    ch := s.ch.map Slice.tick
    supply := { s.supply with stepWindow := Timer.tick s.supply.stepWindow }
    vehicle := { s.vehicle with speedTimer := Timer.tick s.vehicle.speedTimer }
    link := { s.link with parser := { s.link.parser with gapTimer := Timer.tick s.link.parser.gapTimer } }
    store := { s.store with op := s.store.op.map fun o => { o with left := o.left - 1 } } }

/-! ### The ends of the phases of a store operation -/

/-- The WRITE phase of an operation in flight ends (R158). The free values of a write are numbered by `freeCount`. -/
def State.writeEnds (s : State) (diff : List Byte) : State :=
  match s.store.op with
  | some { snapshot := _, phase := .write, left := _ } =>
    { s with store := s.store.endWrite diff s.freeCount, freeCount := s.freeCount + 1 }
  | _ => s

/-! ### The body motion monitor -/

/-- A reading of the acceleration (R78 to R80). -/
def State.takeAccel (s : State) (mg : Int) : State := { s with motion := s.motion.sample s.globals.dDecay mg }

/-- The fiftieth consecutive reading at a limit (R80); any other reading is none of this row's (log entry 11). -/
def State.takeFiftieth (s : State) (mg : Int) : State :=
  if s.motion.limitCount = 49 ∧ (accelLimit mg = -8000 ∨ accelLimit mg = 8000) then s.takeAccel mg else s

/-- The twentieth consecutive sample below U_CUT (R62); any other sample is none of this row's (log entry 11). -/
def State.twentiethSample (s : State) (mV : Nat) : State :=
  if s.supply.cutCount = 19 ∧ brownOutLevel ≤ supplyLimit mV ∧ supplyLimit mV < s.globals.uCut then s.supplyTests mV else s

end Sys2Proof.Machine
end

