-- ==== Sys2Proof/Machine/ChannelCommands.lean ====
section
/-! DEFINITION. The commands of one channel: its once-per-ms work and the expiries of its timers (Chapters 2 to 5). -/

namespace Sys2Proof.Machine

/-- OVERCURRENT_CHECK (R39). -/
def execOvercurrentCheck (c : Channel) (mA : Nat) (s : State) : Host.Outcome State Fault Refusal :=
  .next ((s.setCurrentPin c mA).whenRunning fun t => t.currentCheck c mA)

/-- OVERCURRENT_FAULT (R39). -/
def execOvercurrentFault (c : Channel) (mA : Nat) (s : State) : Host.Outcome State Fault Refusal :=
  .next ((s.setCurrentPin c mA).whenRunning fun t => t.fifthCheck c mA)

/-- RUN_CREDIT_TICK (R37, R38). -/
def execRunCreditTick (c : Channel) (s : State) : Host.Outcome State Fault Refusal :=
  .next (s.whenRunning fun t => t.creditTick c)

/-- CREDIT_RECOVERY (R37). -/
def execCreditRecovery (c : Channel) (s : State) : Host.Outcome State Fault Refusal :=
  .next (s.whenRunning fun t => t.recoveryTick c)

/-- THERMAL_LIMIT (R38). -/
def execThermalLimit (c : Channel) (s : State) : Host.Outcome State Fault Refusal :=
  .next (s.whenRunning fun t => t.thermalTick c)

/-- DUTY_RAMP_TICK (R48). -/
def execDutyRampTick (c : Channel) (s : State) : Host.Outcome State Fault Refusal :=
  .next (s.whenRunning fun t => t.rampTick c)

/-- PWM_PERIOD_BOUNDARY (R47). -/
def execPwmPeriodBoundary (c : Channel) (s : State) : Host.Outcome State Fault Refusal :=
  .next (s.whenRunning fun t => t.modDrv c Drive.boundary)

/-- HOLD_TIMER_EXPIRY (R25). -/
def execHoldTimerExpiry (c : Channel) (s : State) : Host.Outcome State Fault Refusal :=
  .next (s.whenRunning fun t => t.holdExpiry c)

/-- HELD_TIMER_EXPIRY (R36). -/
def execHeldTimerExpiry (c : Channel) (s : State) : Host.Outcome State Fault Refusal :=
  .next (s.whenRunning fun t => t.heldExpiry c)

/-- SILENCE_TIMER_EXPIRY (R50). -/
def execSilenceTimerExpiry (c : Channel) (s : State) : Host.Outcome State Fault Refusal :=
  .next (s.whenRunning fun t => t.silenceExpiry c)

/-- BRAKE_LIMIT_TIMER_EXPIRY (R50). -/
def execBrakeLimitTimerExpiry (c : Channel) (s : State) : Host.Outcome State Fault Refusal :=
  .next (s.whenRunning fun t => t.brakeLimitExpiry c)

/-- STALL_EXPIRY (R99). -/
def execStallExpiry (c : Channel) (s : State) : Host.Outcome State Fault Refusal :=
  .next (s.whenRunning fun t => t.stallTimerExpiry c)

/-- BLANKING_TIMER_EXPIRY (R68). -/
def execBlankingTimerExpiry (c : Channel) (s : State) : Host.Outcome State Fault Refusal :=
  .next (s.whenRunning fun t => t.blankingExpiry c)

end Sys2Proof.Machine
end

