-- ==== Sys2Proof/Machine/Edges.lean ====
section
/-! DEFINITION. The commands of Chapter 1 and of the current accumulator: what arrives at the Hall and current-sense inputs and what
the µs of the time base do. -/

namespace Sys2Proof.Machine

/-- HALL_TRANSITION (R2): the inputs take the new levels, and an operating part decodes them. -/
def execHallTransition (c : Channel) (a b : Bool) (s : State) : Host.Outcome State Fault Refusal :=
  .next ((s.setHallPins c { a := a, b := b }).whenRunning fun t => t.takeHall c { a := a, b := b })

/-- LONG_PAST_MARKER (R3): the marker is set, whatever the time base and the stamp of the last edge read (log entry 25). -/
def execLongPastMarker (c : Channel) (s : State) : Host.Outcome State Fault Refusal :=
  .next (s.whenRunning fun t => t.modTrk c fun k => { k with longPast := true })

/-- CURRENT_ACCUMULATOR_TICK (R1, R3, R69). -/
def execCurrentAccumulatorTick (micros : Nat) (readings : Octet Nat) (s : State) : Host.Outcome State Fault Refusal :=
  .next ((s.setCurrentPins readings).whenRunning fun t => t.passMicros micros readings)

end Sys2Proof.Machine
end

