-- ==== Sys2Proof/Machine/Feeds.lean ====
section
/-! DEFINITION. The commands of the shared sensors: the supply feed (section 3.3), the acceleration (section 4.4), the vehicle's
speed timer (R82) and the log clock (R120). -/

namespace Sys2Proof.Machine

/-- SUPPLY_SAMPLE (R59, R63). -/
def execSupplySample (mV : Nat) (s : State) : Host.Outcome State Fault Refusal :=
  .next (s.takeSupply mV)

/-- SUPPLY_CUT (R62). -/
def execSupplyCut (mV : Nat) (s : State) : Host.Outcome State Fault Refusal :=
  .next (s.whenRunning fun t => t.twentiethSample mV)

/-- STEP_WINDOW_CLOSE (R60). -/
def execStepWindowClose (s : State) : Host.Outcome State Fault Refusal :=
  .next (s.whenRunning fun t => { t with supply := t.supply.closeWindow })

/-- BODY_MOTION_SAMPLE (R78, R79). -/
def execBodyMotionSample (mg : Int) (s : State) : Host.Outcome State Fault Refusal :=
  .next (s.whenRunning fun t => t.takeAccel mg)

/-- SENSOR_FAILED (R80). -/
def execSensorFailed (mg : Int) (s : State) : Host.Outcome State Fault Refusal :=
  .next (s.whenRunning fun t => t.takeFiftieth mg)

/-- SPEED_TIMER_EXPIRY (R82). -/
def execSpeedTimerExpiry (s : State) : Host.Outcome State Fault Refusal :=
  .next (s.whenRunning fun t => { t with vehicle := t.vehicle.expire })

/-- LOG_CLOCK_TICK (R120). -/
def execLogClockTick (s : State) : Host.Outcome State Fault Refusal :=
  .next (s.whenRunning State.passMs)

end Sys2Proof.Machine
end

