-- ==== Sys2Proof/Machine/Line.lean ====
section
/-! DEFINITION. The levels of the two lines of the body link (R141, R153), `true` for high: what LTX carries in each bit time, and
the command that the ten bit times of a byte on LRX come to. -/

namespace Sys2Proof.Machine

/-- The ten bit times of one byte: the start bit, eight data bits from the least significant, the stop bit (R141). That the start bit
is low, against the line's rest, is DEDUCED (log entry 30). -/
def byteLevels (b : Byte) : List Bool := false :: ((List.range 8).map fun i => b.getLsbD i) ++ [true]

/-- What a report puts on LTX, one level per µs, with no gap between the bytes (R141, R152). -/
def reportLevels (r : Report) : List Bool := (reportBytes r).flatMap byteLevels

/-- The level of LTX in bit time `n` of the report being sent, and while nothing is sent the rest level, high (R141, R153). -/
def Link.ltx (l : Link) (n : Nat) : Bool :=
  match l.sending with
  | some r => ((reportLevels r)[n]?).getD true
  | none => true

/-- The byte whose bits these are, least significant first (R141). -/
def byteOfBits (bits : List Bool) : Byte := bits.reverse.foldl (fun x b => (x <<< 1) ||| (if b then 1 else 0)) 0

/-- What a byte on LRX comes to once its stop bit has been sampled (R141): received when that is high, a line error when it is low.
Ten levels that do not begin with a start bit are no byte. -/
def receivedAs (levels : List Bool) : Option Instr :=
  match levels with
  | [false, d0, d1, d2, d3, d4, d5, d6, d7, stop] =>
    some (if stop then .receiveByte (byteOfBits [d0, d1, d2, d3, d4, d5, d6, d7]) else .lineError)
  | _ => none

end Sys2Proof.Machine
end

