-- ==== Sys2Proof/Machine/LinkCommands.lean ====
section
/-! DEFINITION. The commands of the body link's line: bytes, line errors, the gap timer and the transmitter (Chapter 9). -/

namespace Sys2Proof.Machine

/-- RECEIVE_BYTE (R142 to R144). -/
def execReceiveByte (b : Byte) (s : State) : Host.Outcome State Fault Refusal :=
  .next (s.whenRunning fun t => t.takeByte b)

/-- LINE_ERROR (R141). -/
def execLineError (s : State) : Host.Outcome State Fault Refusal :=
  .next (s.whenRunning State.takeLineError)

/-- GAP_TIMER_EXPIRY (R142). -/
def execGapTimerExpiry (s : State) : Host.Outcome State Fault Refusal :=
  .next (s.whenRunning State.takeGapExpiry)

/-- The report on the line is finished and the next is chosen (R152). While the transmitter is idle nothing is finished. -/
def Link.sent (w : Weight) (l : Link) : Link :=
  match l.sending with
  | some _ => { l with sending := none }.choose w
  | none => l

/-- REPORT_SENT (R152). -/
def execReportSent (s : State) : Host.Outcome State Fault Refusal :=
  .next (s.whenRunning fun t => t.modLink fun l => l.sent t.globals.wrr)

end Sys2Proof.Machine
end

