-- ==== Sys2Proof/Machine/RequestCommands.lean ====
section
/-! DEFINITION. The request commands: a frame of the row's kind whose check agrees is taken (R144). The receive parser is not
touched, for such a row is what the parser's completion of the frame comes to (log entry 9). -/

namespace Sys2Proof.Machine

/-- MOVE (R134). -/
def execMove (payload : List Byte) (s : State) : Host.Outcome State Fault Refusal :=
  .next (s.whenRunning fun t => t.takeFrame 0x01 payload)

/-- HALT (R136). -/
def execHalt (payload : List Byte) (s : State) : Host.Outcome State Fault Refusal :=
  .next (s.whenRunning fun t => t.takeFrame 0x02 payload)

/-- VEHICLE (R81). -/
def execVehicle (payload : List Byte) (s : State) : Host.Outcome State Fault Refusal :=
  .next (s.whenRunning fun t => t.takeFrame 0x03 payload)

/-- SET (R154). -/
def execSet (payload : List Byte) (s : State) : Host.Outcome State Fault Refusal :=
  .next (s.whenRunning fun t => t.takeFrame 0x05 payload)

/-- LOCK (R156). -/
def execLock (payload : List Byte) (s : State) : Host.Outcome State Fault Refusal :=
  .next (s.whenRunning fun t => t.takeFrame 0x06 payload)

/-- PERMIT (R138). -/
def execPermit (payload : List Byte) (s : State) : Host.Outcome State Fault Refusal :=
  .next (s.whenRunning fun t => t.takeFrame 0x07 payload)

/-- FORGET (R116). -/
def execForget (payload : List Byte) (s : State) : Host.Outcome State Fault Refusal :=
  .next (s.whenRunning fun t => t.takeFrame 0x08 payload)

/-- CLEAR_FAULT (R41). -/
def execClearFault (payload : List Byte) (s : State) : Host.Outcome State Fault Refusal :=
  .next (s.whenRunning fun t => t.takeFrame 0x09 payload)

/-- TAP (R130). -/
def execTap (payload : List Byte) (s : State) : Host.Outcome State Fault Refusal :=
  .next (s.whenRunning fun t => t.takeFrame 0x0A payload)

/-- COUNT_SELECT (R128). -/
def execCountSelect (payload : List Byte) (s : State) : Host.Outcome State Fault Refusal :=
  .next (s.whenRunning fun t => t.takeFrame 0x0B payload)

/-- STORE (R159). -/
def execStore (payload : List Byte) (s : State) : Host.Outcome State Fault Refusal :=
  .next (s.whenRunning fun t => t.takeFrame 0x0C payload)

/-- PARK (R160). -/
def execPark (payload : List Byte) (s : State) : Host.Outcome State Fault Refusal :=
  .next (s.whenRunning fun t => t.takeFrame 0x0D payload)

/-- RESTART (R162). -/
def execRestart (payload : List Byte) (s : State) : Host.Outcome State Fault Refusal :=
  .next (s.whenRunning fun t => t.takeFrame 0x0E payload)

/-- ASK_CHANNEL (R147). -/
def execAskChannel (tag source arg0 arg1 arg2 : Byte) (s : State) : Host.Outcome State Fault Refusal :=
  .next (s.whenRunning fun t => t.takeFrame 0x04 [tag, source, 0, arg0, arg1, arg2])

/-- ASK_PROFILE (R118). -/
def execAskProfile (tag source arg0 arg1 arg2 : Byte) (s : State) : Host.Outcome State Fault Refusal :=
  .next (s.whenRunning fun t => t.takeFrame 0x04 [tag, source, 1, arg0, arg1, arg2])

/-- ASK_INCIDENT (R124). -/
def execAskIncident (tag source arg0 arg1 arg2 : Byte) (s : State) : Host.Outcome State Fault Refusal :=
  .next (s.whenRunning fun t => t.takeFrame 0x04 [tag, source, 2, arg0, arg1, arg2])

/-- ASK_COUNTERS (R127). -/
def execAskCounters (tag source arg0 arg1 arg2 : Byte) (s : State) : Host.Outcome State Fault Refusal :=
  .next (s.whenRunning fun t => t.takeFrame 0x04 [tag, source, 3, arg0, arg1, arg2])

/-- ASK_LINK (R145). -/
def execAskLink (tag source arg0 arg1 arg2 : Byte) (s : State) : Host.Outcome State Fault Refusal :=
  .next (s.whenRunning fun t => t.takeFrame 0x04 [tag, source, 4, arg0, arg1, arg2])

/-- ASK_SETTING (R147). -/
def execAskSetting (tag source arg0 arg1 arg2 : Byte) (s : State) : Host.Outcome State Fault Refusal :=
  .next (s.whenRunning fun t => t.takeFrame 0x04 [tag, source, 5, arg0, arg1, arg2])

/-- ASK_PERMIT (R139). -/
def execAskPermit (tag source arg0 arg1 arg2 : Byte) (s : State) : Host.Outcome State Fault Refusal :=
  .next (s.whenRunning fun t => t.takeFrame 0x04 [tag, source, 6, arg0, arg1, arg2])

/-- UNKNOWN_KIND (R144). -/
def execUnknownKind (kind : Byte) (payload : List Byte) (s : State) : Host.Outcome State Fault Refusal :=
  .next (s.whenRunning fun t => t.takeFrame kind payload)

end Sys2Proof.Machine
end

