-- ==== Sys2Proof/Machine/StartCommands.lean ====
section
/-! DEFINITION. The commands of the settings store's operations and of the starts (Chapter 10, R63). -/

namespace Sys2Proof.Machine

/-- WRITE_PHASE_END (R158). -/
def execWritePhaseEnd (diff : List Byte) (s : State) : Host.Outcome State Fault Refusal :=
  .next (s.whenRunning fun t => t.writeEnds diff)

/-- VERIFY_PHASE_END (R158). -/
def execVerifyPhaseEnd (s : State) : Host.Outcome State Fault Refusal :=
  .next (s.whenRunning State.endVerify)

/-- MARK_CLEAR (R160). -/
def execMarkClear (s : State) : Host.Outcome State Fault Refusal :=
  .next (s.whenRunning fun t => t.modStore Store.beginMarkClear)

/-- POWER_ON (R63). -/
def execPowerOn (s : State) : Host.Outcome State Fault Refusal :=
  .next s.heldAtStart

/-- COLD_START (R161): of a part held at its start. An operating part cold starts only through a brown-out (R63, log entry 7). -/
def execColdStart (s : State) : Host.Outcome State Fault Refusal :=
  .next (match s.power with | .held => s.coldStarted | .running => s)

end Sys2Proof.Machine
end

