-- ==== Sys2Proof/Machine/Dispatch.lean ====
section
/-! DEFINITION. Every command and its meaning. -/

namespace Sys2Proof.Machine

def exec (i : Instr) (s : State) : Host.Outcome State Fault Refusal :=
  match i with
  | .hallTransition c a b => Sys2Proof.Machine.execHallTransition c a b s
  | .longPastMarker c => Sys2Proof.Machine.execLongPastMarker c s
  | .move payload => Sys2Proof.Machine.execMove payload s
  | .halt payload => Sys2Proof.Machine.execHalt payload s
  | .vehicle payload => Sys2Proof.Machine.execVehicle payload s
  | .askChannel tag source arg0 arg1 arg2 => Sys2Proof.Machine.execAskChannel tag source arg0 arg1 arg2 s
  | .askProfile tag source arg0 arg1 arg2 => Sys2Proof.Machine.execAskProfile tag source arg0 arg1 arg2 s
  | .askIncident tag source arg0 arg1 arg2 => Sys2Proof.Machine.execAskIncident tag source arg0 arg1 arg2 s
  | .askCounters tag source arg0 arg1 arg2 => Sys2Proof.Machine.execAskCounters tag source arg0 arg1 arg2 s
  | .askLink tag source arg0 arg1 arg2 => Sys2Proof.Machine.execAskLink tag source arg0 arg1 arg2 s
  | .askSetting tag source arg0 arg1 arg2 => Sys2Proof.Machine.execAskSetting tag source arg0 arg1 arg2 s
  | .askPermit tag source arg0 arg1 arg2 => Sys2Proof.Machine.execAskPermit tag source arg0 arg1 arg2 s
  | .set payload => Sys2Proof.Machine.execSet payload s
  | .lock payload => Sys2Proof.Machine.execLock payload s
  | .permit payload => Sys2Proof.Machine.execPermit payload s
  | .forget payload => Sys2Proof.Machine.execForget payload s
  | .clearFault payload => Sys2Proof.Machine.execClearFault payload s
  | .tap payload => Sys2Proof.Machine.execTap payload s
  | .countSelect payload => Sys2Proof.Machine.execCountSelect payload s
  | .store payload => Sys2Proof.Machine.execStore payload s
  | .park payload => Sys2Proof.Machine.execPark payload s
  | .restart payload => Sys2Proof.Machine.execRestart payload s
  | .unknownKind kind payload => Sys2Proof.Machine.execUnknownKind kind payload s
  | .receiveByte b => Sys2Proof.Machine.execReceiveByte b s
  | .lineError => Sys2Proof.Machine.execLineError s
  | .gapTimerExpiry => Sys2Proof.Machine.execGapTimerExpiry s
  | .reportSent => Sys2Proof.Machine.execReportSent s
  | .supplySample mV => Sys2Proof.Machine.execSupplySample mV s
  | .supplyCut mV => Sys2Proof.Machine.execSupplyCut mV s
  | .stepWindowClose => Sys2Proof.Machine.execStepWindowClose s
  | .bodyMotionSample mg => Sys2Proof.Machine.execBodyMotionSample mg s
  | .sensorFailed mg => Sys2Proof.Machine.execSensorFailed mg s
  | .overcurrentCheck c mA => Sys2Proof.Machine.execOvercurrentCheck c mA s
  | .overcurrentFault c mA => Sys2Proof.Machine.execOvercurrentFault c mA s
  | .runCreditTick c => Sys2Proof.Machine.execRunCreditTick c s
  | .creditRecovery c => Sys2Proof.Machine.execCreditRecovery c s
  | .thermalLimit c => Sys2Proof.Machine.execThermalLimit c s
  | .dutyRampTick c => Sys2Proof.Machine.execDutyRampTick c s
  | .holdTimerExpiry c => Sys2Proof.Machine.execHoldTimerExpiry c s
  | .heldTimerExpiry c => Sys2Proof.Machine.execHeldTimerExpiry c s
  | .silenceTimerExpiry c => Sys2Proof.Machine.execSilenceTimerExpiry c s
  | .brakeLimitTimerExpiry c => Sys2Proof.Machine.execBrakeLimitTimerExpiry c s
  | .stallExpiry c => Sys2Proof.Machine.execStallExpiry c s
  | .blankingTimerExpiry c => Sys2Proof.Machine.execBlankingTimerExpiry c s
  | .speedTimerExpiry => Sys2Proof.Machine.execSpeedTimerExpiry s
  | .writePhaseEnd diff => Sys2Proof.Machine.execWritePhaseEnd diff s
  | .verifyPhaseEnd => Sys2Proof.Machine.execVerifyPhaseEnd s
  | .markClear => Sys2Proof.Machine.execMarkClear s
  | .powerOn => Sys2Proof.Machine.execPowerOn s
  | .coldStart => Sys2Proof.Machine.execColdStart s
  | .pwmPeriodBoundary c => Sys2Proof.Machine.execPwmPeriodBoundary c s
  | .currentAccumulatorTick micros readings => Sys2Proof.Machine.execCurrentAccumulatorTick micros readings s
  | .logClockTick => Sys2Proof.Machine.execLogClockTick s

end Sys2Proof.Machine
end

