-- ==== Sys2Proof/Safety.lean ====
section
/-! DEFINITION. What holds of the part in every state that a run from reset reaches: the laws the manual states of its own state,
as tests a state can be put to. -/

namespace Sys2Proof.Machine

/-- Holds of every channel. -/
def State.allChannels (s : State) (p : Slice → Bool) : Bool := (List.finRange 8).all fun c => p (s.slice c)

/-! ### What a motion state fixes (R17) -/

/-- The drive unit is OFF, with no direction, duty or timer (R46). -/
def Drive.isOff (d : Drive) : Bool :=
  decide (d.mode = .off) && decide (d.dir = none) && decide (d.applied = 0) && d.silence.isNone && d.brakeLimit.isNone

/-- The drive unit drives in a direction, with its duties in 64..255 (R46, R47). -/
def Drive.isDriving (d : Drive) (dir : Dir) : Bool :=
  decide (d.mode = .drive) && decide (d.dir = some dir) && decide (64 ≤ d.staged ∧ d.staged ≤ 255) &&
  decide (64 ≤ d.applied ∧ d.applied ≤ 255) && d.silence.isNone && d.brakeLimit.isNone

/-- The drive unit brakes (R46, R47). -/
def Drive.isBraking (d : Drive) : Bool := decide (d.mode = .brake) && decide (d.applied = 0)

/-- No drive phase runs: the stall timer, the start blanking and the run record are absent (R66, R91, R98, R107). -/
def Slice.noPhase (sl : Slice) : Bool :=
  decide (sl.est.phase = none) && sl.est.blankTimer.isNone && sl.vdu.stallTimer.isNone && decide (sl.vdu.window = []) &&
  sl.prf.record.isNone

/-- A drive phase of this kind runs, with its stall timer (R66, R98). -/
def Slice.inPhase (sl : Slice) (ph : Phase) : Bool := decide (sl.est.phase = some ph) && sl.vdu.stallTimer.isSome

/-- The move in force has this direction (R18, R23). -/
def movesIn (m : Option Move) (d : Dir) : Bool := decide (m.map Move.dir = some d)

/-- A record is present and MANUAL. -/
def isManual (m : Option Move) : Bool := decide (m.map Move.mode = some .manual)

/-- The row of R17 for the channel's motion state, with what the controller holds in it (section 2.1, R25). -/
def Slice.rowHolds (sl : Slice) : Bool :=
  let t := sl.ctl
  match t.motion with
  | .idle | .faulted =>
    sl.drv.isOff && !sl.arb.held && sl.noPhase && t.move.isNone && t.slot.isNone && t.holdTimer.isNone && !t.reversalOpen
  | .waiting =>
    sl.drv.isOff && !sl.arb.held && sl.noPhase && t.move.isSome && t.slot.isNone &&
    (t.holdTimer.isSome == isManual t.move) && !t.reversalOpen
  | .closing =>
    sl.drv.isDriving .closing && sl.arb.held && sl.inPhase .closing && movesIn t.move .closing && t.slot.isNone &&
    (t.holdTimer.isSome == isManual t.move) && !t.reversalOpen
  | .opening =>
    sl.drv.isDriving .opening && sl.arb.held && sl.inPhase .opening && sl.prf.record.isNone && movesIn t.move .opening &&
    t.slot.isNone && (t.holdTimer.isSome == isManual t.move) && !t.reversalOpen
  | .reversing =>
    sl.drv.isDriving .opening && sl.arb.held && sl.inPhase .reversing && sl.est.blankTimer.isNone && sl.prf.record.isNone &&
    t.move.isNone && t.slot.isNone && t.holdTimer.isNone && t.reversalOpen
  | .braking =>
    sl.drv.isBraking && sl.arb.held && sl.noPhase && t.move.isNone &&
    (t.slot.isSome == decide (t.afterBrake = .requeue)) && (t.holdTimer.isSome == isManual t.slot) &&
    (t.reversalOpen || decide (t.afterBrake ≠ .reverse))

/-- Held mode: the held timer runs exactly while the held flag is set and no reversal is open (R36). -/
def Slice.heldHolds (sl : Slice) : Bool := sl.ctl.heldTimer.isSome == (sl.ctl.held && !sl.ctl.reversalOpen)

/-- The law of the queue (R52): at most one entry per channel, and a channel has an entry exactly while it is WAITING. -/
def State.queueHolds (s : State) : Bool :=
  decide ((s.queue.map QueueEntry.channel).Nodup) && s.queue.all (fun e => decide (e.passes ≤ 3)) &&
  (List.finRange 8).all fun c => s.isQueued c == decide ((s.slice c).ctl.motion = .waiting)

/-- Every channel stands in its row of R17, and the queue obeys its law. -/
abbrev State.MotionLaw (s : State) : Prop :=
  (∀ c : Channel, (s.slice c).rowHolds = true ∧ (s.slice c).heldHolds = true) ∧ s.queueHolds = true

/-! ### The budget (R53) -/

/-- A channel's charge: none without a grant, at least the recorded run charge with one. The settings keep I_RUN at most I_START (R57). -/
def Slice.chargeHolds (sl : Slice) : Bool :=
  (if sl.arb.held then decide (sl.arb.runCharge ≤ sl.arb.charge) else decide (sl.arb.charge = 0)) &&
  decide (sl.cfg.iRun ≤ sl.cfg.iStart)

/-- The law of the budget (R53). -/
abbrev State.BudgetLaw (s : State) : Prop :=
  (∀ c : Channel, (s.slice c).chargeHolds = true) ∧ s.chargeSum ≤ s.globals.budget

/-! ### The position (R4 to R7) -/

/-- The position and uncertainty in range: for a referenced channel, the ranges of R7. Outside FAULTED at most 3 entries of the
history are INVALID, for the fourth empties it (R6). -/
def Slice.positionHolds (sl : Slice) : Bool :=
  decide (64 ≤ sl.cfg.travel ∧ sl.cfg.travel ≤ 4000) && decide (-32768 ≤ sl.trk.position ∧ sl.trk.position ≤ 32767) &&
  decide (sl.trk.uncertainty ≤ 255) && decide (sl.trk.history.length ≤ 16) &&
  (decide (sl.ctl.motion = .faulted) || decide (invalidCount sl.trk.history ≤ 3)) &&
  (!sl.trk.referenced ||
    (decide (-16 ≤ sl.trk.position ∧ sl.trk.position ≤ sl.cfg.travel + 16) && decide (sl.trk.uncertainty ≤ 8)))

/-- The law of the position. -/
abbrev State.PositionLaw (s : State) : Prop := ∀ c : Channel, (s.slice c).positionHolds = true

/-! ### Credit and streak (R35, R37) -/

/-- The run credit lies within 0..CREDIT_MAX and the streak within 0..N_HELD. -/
def Slice.limitsHold (sl : Slice) : Bool :=
  decide (sl.ctl.credit ≤ sl.cfg.creditMax) && decide (sl.ctl.streak ≤ sl.cfg.nHeld) && decide (2 ≤ sl.cfg.nHeld)

/-- The laws of the credit and of the streak. -/
abbrev State.CreditLaw (s : State) : Prop := ∀ c : Channel, (s.slice c).limitsHold = true

/-! ### The window and the profile (R91, R114, R115) -/

/-- The window holds at most WIN_LEN slots (R91). Every baseline of a LEARNED or STALE zone lies within B_FLOOR..B_CEIL (R114) and every
spread within 0..S_MAX (R115), and the settings that bound them keep their own order. -/
def Slice.learningHolds (sl : Slice) : Bool :=
  decide (sl.vdu.window.length ≤ sl.cfg.winLen) && decide (sl.cfg.bFloor ≤ sl.cfg.bCeil) &&
  decide (sl.cfg.sInit ≤ sl.cfg.sMax) &&
  sl.prf.zones.toList.all fun z =>
    decide (z.spread ≤ sl.cfg.sMax) &&
    (decide (z.state = .empty) || decide (sl.cfg.bFloor ≤ z.baseline ∧ z.baseline ≤ sl.cfg.bCeil))

/-- The law of the window and of the profile. -/
abbrev State.LearningLaw (s : State) : Prop := ∀ c : Channel, (s.slice c).learningHolds = true

/-! ### The lists of the shared blocks -/

/-- Every bounded list is within its bound, and an idle transmitter leaves no report waiting (R59, R120, R151, R152). -/
abbrev State.CapacityLaw (s : State) : Prop :=
  s.link.urgent.length ≤ urgentCapacity ∧ s.link.routine.length ≤ routineCapacity ∧ s.link.urgentRun ≤ 255 ∧
  (s.link.sending = none → s.link.urgent = [] ∧ s.link.routine = []) ∧
  s.log.ring.length ≤ 32 ∧ s.supply.history.length ≤ 8 ∧ s.supply.cutCount ≤ 20 ∧ s.motion.limitCount ≤ 50

/-- The tags of the ring run consecutively up to the next tag (R120). -/
abbrev IncidentLog.TagLaw (l : IncidentLog) : Prop :=
  l.ring.map Incident.tag =
    (List.range l.ring.length).map fun i => l.nextTag - BitVec.ofNat 16 (l.ring.length - i)

/-- The park mark: clear-due is set only while the mark stands (R160). -/
abbrev State.MarkLaw (s : State) : Prop := s.store.clearDue = true → s.store.markStanding = true

/-- The sensor is failed exactly while its limit count stands at 50 (R80). -/
abbrev State.SensorLaw (s : State) : Prop := s.motion.failed = true ↔ s.motion.limitCount = 50

/-- A privileged set has a member (R138). -/
def hasMember (priv : Octet Bool) : Bool := priv.toList.any id

/-- At least one source is privileged (R138): now, and in what a cold start would load, be it in the image or still to be written. -/
abbrev State.PrivilegeLaw (s : State) : Prop :=
  hasMember s.priv = true ∧
  (s.store.image.settings.checkGood = true → hasMember s.store.image.settings.content.priv = true) ∧
  ∀ op x, s.store.op = some op → op.snapshot = .store x → hasMember x.priv = true

/-! ### The terms of the statements -/

/-- `s` with one well-formed request frame counted (R144, R145). -/
def State.counted (s : State) : State := s.modCounters fun n => { n with framesOk := n.framesOk + 1 }

/-- A source byte that names a source (R132). -/
abbrev namesSource (b : Byte) : Prop := (sourceOfByte b).isSome = true

/-- A source byte that names a member of the privileged set (R137). -/
abbrev State.privileged (s : State) (b : Byte) : Prop :=
  ((sourceOfByte b).map fun q => s.priv.get (Source.index q)) = some true

/-- A source whose entry for a channel is ALLOW (R134). -/
abbrev State.allows (s : State) (q : Source) (c : Channel) : Prop := (s.perms.get (Source.index q)).get c = .allow

/-- The byte of a mask that names one channel (R146). -/
def oneChannel (c : Channel) : Byte := 1 <<< c.val

/-- The byte of a channel number. -/
def channelByte (c : Channel) : Byte := byteOf c.val

/-- The motion state that driving in a direction is. -/
def drivenIn : Dir → Motion
  | .closing => .closing
  | .opening => .opening

/-- The drive phase that driving a move in a direction is. -/
def phaseIn : Dir → Phase
  | .closing => .closing
  | .opening => .opening

/-- CLOSING, OPENING or REVERSING (R17). -/
abbrev isDriven (m : Motion) : Prop := m = .closing ∨ m = .opening ∨ m = .reversing

/-- R18: a channel's part of a MOVE in this mode, with these direction and target bytes, settles to the record `m` (and to no null move)
on a channel of this TRAVEL at this position. -/
def settlesTo (travel : Nat) (pos : Int) (mode : MoveMode) (dirByte lo hi : Byte) (m : Move) : Prop :=
  let goal := min (lo.toNat + 256 * hi.toNat) travel
  (mode ≠ .target ∧ dirByte = byteOf (Dir.code m.dir) ∧ m.mode = mode ∧
    m.target = (match m.dir with | .closing => 0 | .opening => travel) ∧
    (m.mode = .express → m.dir = .opening → pos < travel)) ∨
  (mode = .target ∧ goal = 0 ∧ m.mode = .express ∧ m.dir = .closing ∧ m.target = 0) ∨
  (mode = .target ∧ goal ≠ 0 ∧ 2 < ((goal : Int) - pos).natAbs ∧ m.mode = .target ∧ m.target = goal ∧
    m.dir = if (goal : Int) < pos then .closing else .opening)

/-- Commands taken one after the other, to the first stop. -/
def runAll : List Instr → State → Host.Outcome State Fault Refusal
  | [], s => .next s
  | i :: is, s =>
    match exec i s with
    | .next t => runAll is t
    | .fault r => .fault r
    | .refused r => .refused r

/-- `t` differs from `s` in no channel but `c`. -/
abbrev State.othersKept (s t : State) (c : Channel) : Prop := ∀ d : Channel, d ≠ c → t.slice d = s.slice d

/-- The drive phase of a channel has ended between `old` and `new`, with no run end at the closed end (R27, R66, R91, R98, R107): no phase
and no start blanking, an empty verdict unit, and an open run record closed as abandoned. -/
def Slice.phaseEnds (old new : Slice) : Prop :=
  new.est = { old.est with phase := none, blankTimer := none } ∧
  new.vdu = { window := [], decided := false, stallTimer := none, firstEdge := false, newest := none } ∧
  new.prf = { old.prf with record := none, lastRun := new.prf.lastRun } ∧
  (old.prf.record = none → new.prf.lastRun = old.prf.lastRun) ∧
  ∀ r, old.prf.record = some r → new.prf.lastRun.outcome = .abandoned

/-- Braking has begun on a driven channel between `s` and `t` (R27): its controller, drive unit, phase and run record, with every
other channel as it was. The rule that ordered it may besides have submitted an incident or queued a notice. -/
def State.brakesTo (s t : State) (c : Channel) (action : AfterBrake) (reason : Reason) : Prop :=
  let old := s.slice c
  let new := t.slice c
  s.othersKept t c ∧
  new.ctl =
    { old.ctl with
      motion := .braking, afterBrake := action, endReason := some reason, move := none, holdTimer := none, recovery := 0 } ∧
  new.drv = { old.drv with mode := .brake, applied := 0, silence := some 10, brakeLimit := some 150 } ∧
  new.arb = old.arb ∧ new.trk = old.trk ∧ new.cfg = old.cfg ∧ new.ctr = old.ctr ∧ old.phaseEnds new

/-- A WAITING channel has become IDLE between `s` and `u`, but for its notice (R20, R24, R25, R42): no move, no hold timer, and its entry
gone from the start queue. Under a set sag flag, or with no other entry waiting, no other channel changes. -/
def State.waitEnds (s u : State) (c : Channel) : Prop :=
  u = { s with ch := u.ch, queue := u.queue, store := u.store } ∧
  u.slice c =
    { s.slice c with
      ctl :=
        { (s.slice c).ctl with
          motion := .idle, move := none, slot := none, holdTimer := none, endReason := (u.slice c).ctl.endReason } } ∧
  u.isQueued c = false ∧
  ((s.supply.sag = true ∨ ∀ e ∈ s.queue, e.channel = c) →
    s.othersKept u c ∧ u.queue = s.queue.filter (fun e => decide (e.channel ≠ c)) ∧ u.store = s.store)

/-- The position a count in the direction of a phase leads to (R4, R66). -/
def positionAfter (ph : Phase) (pos : Int) : Int := if ph = .closing then pos - 1 else pos + 1

/-- The pair (a, b) is one place on from the pair `h` in the direction of a phase (R2, R66): the pair after (a, b) in the opening order is
(b, not a). -/
abbrev countsIn (ph : Phase) (h : HallPair) (a b : Bool) : Prop :=
  if ph = .closing then a = (!h.b) ∧ b = h.a else a = h.b ∧ b = !h.a

/-- A position a count may lead to with neither a desync nor a bound met: the range of R7 for a referenced channel, and of R4 for another. -/
abbrev Slice.mayReach (sl : Slice) (pos : Int) : Prop :=
  if sl.trk.referenced = true then -16 ≤ pos ∧ pos ≤ (sl.cfg.travel : Int) + 16 else -32768 ≤ pos ∧ pos ≤ 32767

/-- `x` is the completed sample of a count in the direction of phase `ph` of channel `c`, taken in state `s`: its inputs (R67, R69, R70), the
six stages (R71 to R76), and the levels and tags of `completeSample` (R86 to R90, `Obligations.VerdictTests`). The disturbed mark of a
failed sensor under D_ROUGH 0 (log entry 27) is left open. -/
def State.completesSample (s : State) (c : Channel) (ph : Phase) (x : Sample) : Prop :=
  let old := s.slice c
  let cfg := old.cfg
  let pos := positionAfter ph old.trk.position
  let micros := readingsMicros old.est.readings
  let pn := min 65535 ((x.p * s.supply.value * old.drv.applied + 1721250) / 3442500)
  let e := min 32767 ((x.i * cfg.ci + pn * cfg.cp) / 256)
  let z := old.prf.zones[zoneOf cfg.travel pos]
  let term := fun (ref : Int) =>
    if s.vehicle.tempKnown = true ∧ s.vehicle.temp < ref then (ref - s.vehicle.temp).toNat * cfg.kt / 16 else 0
  (x.channel = c ∧ x.phase = ph ∧ x.number = min 65535 (old.est.sampleNo + 1) ∧ (x.first = true ↔ old.est.sampleNo = 0) ∧
    x.position = pos ∧ x.zone = zoneOf cfg.travel pos ∧ x.referenced = old.trk.referenced ∧ x.record = z) ∧
  (x.p = periodOf old.trk s.timeBase ∧
    x.i = (if micros = 0 then (s.pins.get c).current else readingsSum old.est.readings / micros) ∧
    x.u = s.supply.value ∧ x.dty = old.drv.applied ∧ x.dlev = s.motion.dlev) ∧
  x.e = e ∧ (old.est.sampleNo = 0 → x.f = e) ∧
  (∀ g, old.est.sampleNo ≠ 0 → old.est.filter = some g →
    (x.f : Int) = g + Int.tdiv ((e : Int) - g) ((2 ^ cfg.filterShift : Nat) : Int)) ∧
  x.bEff = min 32767 (if z.state = .empty then cfg.bDefault + term 20 else z.baseline + term z.tz) ∧
  x.aDist = min s.globals.dMax (s.motion.dlev * s.globals.kd / 64) ∧
  x.aSupply = (if s.supply.stepWindow = none then 0 else s.globals.aStep) ∧
  x.aSpeed =
    (match s.vehicle.speed with
     | some v => if cfg.kind = .roofPanel then min s.globals.vMax (v * s.globals.kv / 16) else 0
     | none => 0) ∧
  x.allowance = x.aDist + x.aSupply + x.aSpeed ∧ x.residue = (x.f : Int) - x.bEff ∧
  x = { completeSample cfg s.globals.dRough old.ctl.held x with disturbed := x.disturbed } ∧
  (¬(s.globals.dRough = 0 ∧ s.motion.failed = true) → (x.disturbed = true ↔ s.globals.dRough ≤ s.motion.dlev))

/-- The fields of a verdict record (R96) taken at a completed sample `x` that has just entered the window `w`, with the hit set `ages`. -/
def Verdict.records (y : Verdict) (mode : AggMode) (w : List Slot) (ages : List Nat) (x : Sample) : Prop :=
  y.channel = x.channel ∧ y.phase = x.phase ∧ y.number = x.number ∧ y.position = x.position ∧ y.residue = x.residue ∧
  y.tl = x.tl ∧ y.mode = mode ∧ (∀ j, j < 16 → (y.hitMask.getLsbD j = true ↔ j ∈ ages)) ∧ y.hitIndex ∈ ages ∧
  (∀ j, j ∈ ages → j ≤ y.hitIndex) ∧ y.validLength = (w.filter fun z => z.valid).length ∧
  w[y.hitIndex]?.map Slot.position = some y.firstHit ∧ y.aDist = x.aDist ∧ y.aSupply = x.aSupply ∧ y.aSpeed = x.aSpeed ∧
  y.dty = x.dty ∧ y.u = x.u

/-- `l'` is the log `l` after one record `r` has joined it (R120). -/
def IncidentLog.joinedBy (l l' : IncidentLog) (r : Incident) : Prop :=
  r.tag = l.nextTag ∧ r.time = l.clock ∧
  l' = { l with
    nextTag := l.nextTag + 1
    ring := (l.ring ++ [r]).drop (if l.ring.length < 32 then 0 else 1) }

/-- A reversal that ends now begins held mode (R34, R36). -/
def Controller.beginsHeld (k : Controller) (cfg : ChannelSettings) : Bool :=
  k.reversalOpen && decide (k.streak = cfg.nHeld) && !k.held

/-- The fields of an incident record (R121) that tell of its channel as it stood before the action, at this supply and temperature. -/
def Incident.asFound (x : Incident) (old : Slice) (supply : Nat) (temp : Int) : Prop :=
  x.motion = old.ctl.motion ∧ x.position = old.trk.position ∧ x.zone = zoneOf old.cfg.travel old.trk.position ∧
  x.duty = old.drv.applied ∧ x.supply = supply ∧ x.temp = temp ∧ x.streak = old.ctl.streak ∧ x.held = old.ctl.held ∧
  x.runCounter = old.prf.runCounter ∧ x.mode = (incidentMode old.ctl).1 ∧ x.source = (incidentMode old.ctl).2

/-- `t` differs from `s` in the channels and in nothing else. -/
abbrev State.onlyChannels (s t : State) : Prop := t = { s with ch := t.ch }

end Sys2Proof.Machine
end

