-- ==== Sys2Proof/Certificates/Slice0/Obligations.lean ====
section
/-! DEFINITION. The statements for the provers. Each says in its docstring which rules of spec/ it rests on. A statement
about a model's own choice names the log entry. -/

open Sys2Proof Sys2Proof.Machine

/-! ### The step and the starts -/

/-- A step runs the command at the front of the queue on the state with the rest, and idles on an empty queue. Rests on
the model's own queue (log entry 1). -/
def Obligations.StepTakesFrontCommand : Prop :=
  (∀ (s : State) (i : Instr) (rest : List Instr), s.pending = i :: rest → step s = exec i { s with pending := rest }) ∧
  (∀ s : State, s.pending = [] → step s = .next s)

/-- R45, R51, R58, R64, R84, R85, R102, R119, R125, R129, R131, R153, R156, R161, R162: the values of every block but the trackers
(`TrackersAtStart`) after a cold start and after a warm restart. What a load clamps, `clampContent`, and the fixed defaults,
`defaultContent`, are spelled out in `StoredSettingsSurvive`. In two points what a load clamps is the model's choice (log entries 20 and
29). -/
def Obligations.StartValues : Prop :=
  let supply : SupplyMonitor := { value := 0, history := [], stepWindow := none, sag := true, cutCount := 0 }
  let tap : Tap := { channel := none, phases := { closing := false, opening := false, reversing := false }, skipped := 0 }
  let controller := fun (credit : Nat) =>
    ({ motion := .idle, move := none, slot := none, afterBrake := .goIdle, endReason := none, reversalTarget := 0,
       reversalOpen := false, holdTimer := none, streak := 0, held := false, heldTimer := none, credit := credit,
       recovery := 0, overcurrent := 0 } : Controller)
  let rested := fun (sl : Slice) =>
    sl.drv =
      { mode := .off, dir := none, profile := .normal, target := sl.cfg.dStart, staged := sl.cfg.dStart, applied := 0,
        silence := none, brakeLimit := none } ∧
    sl.arb.held = false ∧ sl.arb.charge = 0 ∧ sl.arb.inBlanking = false ∧
    sl.est =
      { phase := none, sampleNo := 0, filter := none, blankTimer := none, readings := [], newest := none } ∧
    sl.vdu = { window := [], decided := false, stallTimer := none, firstEdge := false, newest := none } ∧
    sl.prf.record = none
  (∀ s : State, s.power = .held → ∃ t, exec .coldStart s = .next t ∧ t.power = .running ∧ t.queue = [] ∧ t.timeBase = 0 ∧
    t.settingsNow =
      (if s.store.image.settings.checkGood then clampContent s.store.image.settings.content else defaultContent) ∧
    t.store =
      { locked := t.globals.lockAtStart, op := none, clearDue := false, image := s.store.image
        markStanding := s.store.image.park.checkGood && s.store.image.park.content.mark } ∧
    t.supply = supply ∧ t.tap = tap ∧ t.log = { ring := [], nextTag := 0, clock := 0 } ∧
    t.motion = { rest := none, dlev := 0, limitCount := 0, failed := false } ∧
    t.vehicle = { speed := none, speedTimer := none, temp := 20, tempKnown := false } ∧
    t.link.parser.state = .hunt ∧ t.link.parser.gapTimer = none ∧
    t.link =
      { parser := t.link.parser, urgent := [], routine := [], urgentRun := 0, sending := none
        counters :=
          { framesOk := 0, dropRunt := 0, dropOversize := 0, dropGap := 0, dropLine := 0, dropCheck := 0,
            unknownKind := 0, badLength := 0, urgentLost := 0, routineLost := 0 } } ∧
    (∀ n : Nat, t.link.ltx n = true) ∧
    ∀ c : Channel,
      (t.slice c).ctl = controller (t.slice c).cfg.creditMax ∧ rested (t.slice c) ∧
      (t.slice c).prf.lastRun.outcome = .none ∧
      (t.slice c).ctr =
        { a := { value := 0, select := .closeRuns }, b := { value := 0, select := .tripSamples },
          c := { value := 0, select := .hallInvalid } }) ∧
  (∀ (s : State) (tag src : Byte), s.power = .running → s.privileged src → s.queue = [] →
    (∀ c : Channel, (s.slice c).arb.held = false) → ∃ t, exec (.restart [tag, src]) s = .next t ∧ t.queue = [] ∧
    t.timeBase = s.timeBase ∧ t.settingsNow = s.settingsNow ∧
    t.store = { s.store with locked := s.globals.lockAtStart, op := none } ∧
    t.supply = supply ∧ t.tap = tap ∧ t.log = s.log ∧
    t.motion = { rest := s.motion.rest, dlev := 0, limitCount := 0, failed := false } ∧
    t.vehicle = { speed := none, speedTimer := none, temp := s.vehicle.temp, tempKnown := s.vehicle.tempKnown } ∧
    t.link.parser.state = .hunt ∧ t.link.parser.gapTimer = none ∧
    (let emptied : State :=
      { s.counted with
        link := { s.counted.link with parser := t.link.parser, urgent := [], routine := [], urgentRun := 0 } }
     t.link = (emptied.answer tag .restart .done []).link) ∧
    ∀ c : Channel,
      (t.slice c).ctl = controller (min (s.slice c).ctl.credit (s.slice c).cfg.creditMax) ∧ rested (t.slice c) ∧
      (t.slice c).prf.lastRun = (s.slice c).prf.lastRun ∧ (t.slice c).ctr = (s.slice c).ctr)

/-- R15, R16: what a tracker holds after a cold start and after a warm restart. In two points what a load clamps, `clampContent`, is the
model's choice (log entries 20 and 29), and that a stored position stands in 16 signed bits is DEDUCED (log entry 23). -/
def Obligations.TrackersAtStart : Prop :=
  (∀ s : State, s.power = .held → ∃ t, exec .coldStart s = .next t ∧ t.link.urgent = [] ∧ t.link.routine = [] ∧
    t.link.sending = none ∧ ∀ c : Channel,
    let k := (t.slice c).trk
    let park := s.store.image.park
    let stored := (park.content.positions.get c).toInt
    k.hall = (s.pins.get c).hall ∧ k.lastStamp = 0 ∧ k.longPast = true ∧ k.history = [] ∧ k.uncertainty = 0 ∧
    (s.store.image.settings.checkGood = true →
      (t.slice c).cfg = (clampContent s.store.image.settings.content).channels.get c) ∧
    (s.store.image.settings.checkGood = false → (t.slice c).cfg = defaultContent.channels.get c) ∧
    (park.checkGood = true → park.content.mark = true → k.position = stored ∧
      (k.referenced = true ↔ -16 ≤ stored ∧ stored ≤ (t.slice c).cfg.travel + 16)) ∧
    (park.checkGood = true → park.content.mark = false → k.position = 0 ∧ k.referenced = false) ∧
    (park.checkGood = false → k.position = 0 ∧ k.referenced = false)) ∧
  (∀ (s : State) (tag src : Byte), s.power = .running → s.privileged src → s.queue = [] →
    (∀ c : Channel, (s.slice c).arb.held = false) → ∃ t, exec (.restart [tag, src]) s = .next t ∧ ∀ c : Channel,
    (t.slice c).trk = { (s.slice c).trk with history := [], longPast := true } ∧ (t.slice c).ctl.motion = .idle)

/-- R63: a sample below 5 500 mV holds the part at its start with every output OFF and every block at its cold-start values, as
power-on does. Held, it takes nothing from the line and begins at the first sample at or above 5 500 mV. The model's choices: on a held
part no command but POWER_ON, SUPPLY_SAMPLE and COLD_START acts, though the levels of its pins may change (log entry 4), and the sample that
starts it is only the start (log entry 7). -/
def Obligations.BrownOutHoldsThePart : Prop :=
  (∀ (s : State) (mV : Nat), s.power = .running → mV < 5500 → exec (.supplySample mV) s = exec .powerOn s) ∧
  (∀ s : State, ∃ t u, exec .powerOn s = .next t ∧ t.power = .held ∧ t.store.op = none ∧ t.log.ring = [] ∧
    exec .coldStart t = .next u ∧ t = { u with power := .held } ∧
    ∀ c : Channel, (t.slice c).drv.mode = .off ∧ (t.slice c).ctl.motion = .idle) ∧
  (∀ (s : State) (mV : Nat), s.power = .held → mV < 5500 → exec (.supplySample mV) s = .next s) ∧
  (∀ (s : State) (mV : Nat), s.power = .held → 5500 ≤ mV → exec (.supplySample mV) s = exec .coldStart s) ∧
  (∀ (s : State) (p : List Byte) (k a b c d e : Byte), s.power = .held →
    exec (.move p) s = .next s ∧ exec (.halt p) s = .next s ∧ exec (.vehicle p) s = .next s ∧
    exec (.set p) s = .next s ∧ exec (.lock p) s = .next s ∧ exec (.permit p) s = .next s ∧
    exec (.forget p) s = .next s ∧ exec (.clearFault p) s = .next s ∧ exec (.tap p) s = .next s ∧
    exec (.countSelect p) s = .next s ∧ exec (.store p) s = .next s ∧ exec (.park p) s = .next s ∧
    exec (.restart p) s = .next s ∧ exec (.unknownKind k p) s = .next s ∧ exec (.receiveByte a) s = .next s ∧
    exec (.askChannel a b c d e) s = .next s ∧ exec (.askProfile a b c d e) s = .next s ∧
    exec (.askIncident a b c d e) s = .next s ∧ exec (.askCounters a b c d e) s = .next s ∧
    exec (.askLink a b c d e) s = .next s ∧ exec (.askSetting a b c d e) s = .next s ∧
    exec (.askPermit a b c d e) s = .next s)

/-! ### Hall edges and the time base -/

/-- R1, R2, R4 to R7, R40, R44, R126: what a newly sampled Hall pair makes of the tracker, in every motion state, and that no other
tracker changes. An invalid transition is counted as one HALL_INVALID. A Hall fault is recorded and puts the channel into FAULTED. What
it makes of the channel is stated under the position law's bound on the history (`State.PositionLaw`, kept by every step): with at most 3
INVALID entries there already, only an invalid transition raises it. The pair after (a, b) in the opening order is (b, not a). That the incident stands before the notices, and these carry the state after the
event, is the model's (log entry 15). -/
def Obligations.HallPairMovesTracker : Prop :=
  ∀ (s : State) (c : Channel) (a b : Bool), s.power = .running → ∃ t, exec (.hallTransition c a b) s = .next t ∧
    (∀ d : Channel, d ≠ c → (t.slice d).trk = (s.slice d).trk) ∧
    let was := s.slice c
    let is := t.slice c
    let old := was.trk
    let new := is.trk
    let opened : Bool := decide (a = old.hall.b) && decide (b = !old.hall.a)
    let closed : Bool := decide (a = !old.hall.b) && decide (b = old.hall.a)
    let kept : List Bool := (old.history ++ [opened || closed]).drop (if old.history.length < 16 then 0 else 1)
    let moved : Int := if opened then old.position + 1 else old.position - 1
    let fault : Bool := decide (was.ctl.motion ≠ .faulted) && decide (4 ≤ (kept.filter fun v => !v).length)
    (a = old.hall.a → b = old.hall.b → t = { s with pins := t.pins }) ∧
    (¬(a = old.hall.a ∧ b = old.hall.b) →
      new.hall = { a := a, b := b } ∧ new.lastStamp = s.timeBase ∧ new.longPast = false ∧
      new.position =
        (if opened || closed then
          (if old.referenced then moved else max (-32768) (min 32767 moved))
         else old.position) ∧
      new.uncertainty = (if opened || closed then old.uncertainty else min 255 (old.uncertainty + 1)) ∧
      new.history = (if fault then [] else kept) ∧
      (new.referenced = true ↔
        old.referenced = true ∧ fault = false ∧
        (if opened || closed then -16 ≤ new.position ∧ new.position ≤ was.cfg.travel + 16
         else new.uncertainty ≤ 8)) ∧
      (opened = false → closed = false →
        is.ctr =
          { was.ctr with
            c :=
              { was.ctr.c with
                value := was.ctr.c.value + if was.ctr.c.select = .hallInvalid then 1 else 0 } }) ∧
      (fault = true → invalidCount old.history ≤ 3 →
        let flips := was.ctl.reversalOpen && decide (was.ctl.streak = was.cfg.nHeld) && !was.ctl.held
        let closes := was.ctl.reversalOpen = true ∧ (was.ctl.held = true ∨ was.ctl.streak = was.cfg.nHeld)
        is.ctl =
          { was.ctl with
            motion := .faulted, move := none, slot := none, holdTimer := none, reversalOpen := false,
            held := was.ctl.held || flips,
            heldTimer := if closes then some (was.cfg.heldS * 1000) else was.ctl.heldTimer } ∧
        is.drv.mode = .off ∧
        (was.drv.mode ≠ .off →
          is.drv.dir = none ∧ is.drv.applied = 0 ∧ is.drv.silence = none ∧ is.drv.brakeLimit = none) ∧
        is.arb.held = false ∧ (was.arb.held = true → is.arb.charge = 0) ∧ t.isQueued c = false ∧
        is.est.phase = none ∧ is.est.blankTimer = none ∧ is.vdu.stallTimer = none ∧ is.prf.record = none ∧
        (∀ r, was.prf.record = some r → is.prf.lastRun.outcome = .abandoned) ∧
        ∃ x : Incident, s.log.joinedBy t.log x ∧ x.channel = c ∧ x.kind = .hallFault ∧ x.motion = was.ctl.motion ∧
          x.position = old.position ∧
          let change := fun (u : State) (k : ChangeKind) (f : Option FaultKind) =>
            u.queueReport .change (t.changeOf c k none f none)
          let s1 := s.queueReport .incident (.incident x)
          let s2 := if flips then change s1 .held none else s1
          let s3 := if old.referenced then change s2 .referenced none else s2
          t.link = (change s3 .fault (some .hallFault)).link))

/-- R3: the period of an edge, and the long-past marker as its own command and the passing µs set it. That the command sets the marker
whatever the time base reads (log entry 25), and that n µs pass in one command (log entry 5), are the model's choices. -/
def Obligations.PeriodAndLongPastMarker : Prop :=
  (∀ (k : Tracker) (now : BitVec 32), k.longPast = true → periodOf k now = 65535) ∧
  (∀ (k : Tracker) (now : BitVec 32), k.longPast = false →
    periodOf k now = max 1 (min 65535 ((now.toNat + 4294967296 - k.lastStamp.toNat) % 4294967296))) ∧
  (∀ (s : State) (c : Channel), s.power = .running →
    exec (.longPastMarker c) s = .next (s.modTrk c fun k => { k with longPast := true })) ∧
  (∀ (s : State) (n : Nat) (r : Octet Nat), s.power = .running → ∃ t, exec (.currentAccumulatorTick n r) s = .next t ∧
    ∀ c : Channel, ((t.slice c).trk.longPast = true ↔
      (s.slice c).trk.longPast = true ∨ 65535 ≤ (s.timeBase - (s.slice c).trk.lastStamp).toNat + n))

/-- R1, R69: the passing of n µs raises the time base by n and adds n readings, each at most 40 000 mA, to every current
accumulator that stays within 65 535 µs. Nothing else changes but the inputs and the long-past markers. That one command
spans n µs is the model's choice (log entry 5). -/
def Obligations.MicrosecondsAreAccumulated : Prop :=
  ∀ (s : State) (n : Nat) (r : Octet Nat), s.power = .running → ∃ t, exec (.currentAccumulatorTick n r) s = .next t ∧
    t.timeBase = s.timeBase + BitVec.ofNat 32 n ∧
    t = { s with timeBase := t.timeBase, pins := t.pins, ch := t.ch } ∧
    ∀ c : Channel,
      (t.pins.get c).hall = (s.pins.get c).hall ∧ (t.pins.get c).current = min 40000 (r.get c) ∧
      t.slice c =
        { s.slice c with
          trk := { (s.slice c).trk with longPast := (t.slice c).trk.longPast }
          est := { (s.slice c).est with readings := (t.slice c).est.readings } } ∧
      (readingsMicros (s.slice c).est.readings + n ≤ 65535 →
        readingsMicros (t.slice c).est.readings = readingsMicros (s.slice c).est.readings + n ∧
        readingsSum (t.slice c).est.readings = readingsSum (s.slice c).est.readings + min 40000 (r.get c) * n)

/-- One command of m + n µs is one of m µs followed by one of n µs with the same readings: the model's choice of a bulk tick
(log entry 5) is no more than R69's reading at every µs. -/
def Obligations.MicrosecondTicksAdd : Prop :=
  ∀ (s : State) (m n : Nat) (r : Octet Nat), s.power = .running →
    runAll [.currentAccumulatorTick m r, .currentAccumulatorTick n r] s = exec (.currentAccumulatorTick (m + n) r) s

/-- R120: the log clock rises by 1 and wraps; the ring and its tags stay. That every running timer and the phase of a store operation
have one ms less left at the same command, to 0 at least, is the model's choice (log entry 6). -/
def Obligations.LogClockTick : Prop :=
  ∀ s : State, s.power = .running → ∃ t, exec .logClockTick s = .next t ∧
    t.log = { s.log with clock := BitVec.ofNat 32 ((s.log.clock.toNat + 1) % 4294967296) } ∧
    t = { s with log := t.log, ch := t.ch, supply := t.supply, vehicle := t.vehicle, link := t.link, store := t.store } ∧
    t.supply = { s.supply with stepWindow := s.supply.stepWindow.map fun n => n - 1 } ∧
    t.vehicle = { s.vehicle with speedTimer := s.vehicle.speedTimer.map fun n => n - 1 } ∧
    t.link =
      { s.link with parser := { s.link.parser with gapTimer := s.link.parser.gapTimer.map fun n => n - 1 } } ∧
    t.store = { s.store with op := s.store.op.map fun o => { o with left := o.left - 1 } } ∧
    ∀ c : Channel,
      (t.slice c).ctl =
        { (s.slice c).ctl with
          holdTimer := (s.slice c).ctl.holdTimer.map fun n => n - 1
          heldTimer := (s.slice c).ctl.heldTimer.map fun n => n - 1 } ∧
      (t.slice c).drv =
        { (s.slice c).drv with
          silence := (s.slice c).drv.silence.map fun n => n - 1
          brakeLimit := (s.slice c).drv.brakeLimit.map fun n => n - 1 } ∧
      (t.slice c).est = { (s.slice c).est with blankTimer := (s.slice c).est.blankTimer.map fun n => n - 1 } ∧
      (t.slice c).vdu = { (s.slice c).vdu with stallTimer := (s.slice c).vdu.stallTimer.map fun n => n - 1 } ∧
      (t.slice c).trk = (s.slice c).trk ∧ (t.slice c).arb = (s.slice c).arb ∧ (t.slice c).prf = (s.slice c).prf ∧
      (t.slice c).ctr = (s.slice c).ctr ∧ (t.slice c).cfg = (s.slice c).cfg

/-! ### Frames and the source filter -/

/-- R144, R151: a frame whose check agrees, by its kind and payload length. That every request row and every topic row of ASK is the frame
of its kind, which leaves the receive parser alone, is the model's choice (log entry 9). -/
def Obligations.FrameIsHeldAgainstCatalogue : Prop :=
  (∀ (s : State) (kind : Byte) (p : List Byte), s.power = .running → ¬(1 ≤ kind.toNat ∧ kind.toNat ≤ 14) →
    exec (.unknownKind kind p) s =
      .next ((s.modCounters fun n => { n with unknownKind := n.unknownKind + 1 }).queueReport .answerOther
        (.answer (p.headD 0) kind .malformed []))) ∧
  (∀ (s : State) (k : RequestKind) (p : List Byte), s.power = .running → p.length ≠ payloadLength k →
    exec (.unknownKind (byteOf k.code) p) s =
      .next ((s.modCounters fun n => { n with badLength := n.badLength + 1 }).queueReport .answerOther
        (.answer (p.headD 0) (byteOf k.code) .malformed []))) ∧
  (∀ (s : State) (k : RequestKind) (p : List Byte), s.power = .running → p.length = payloadLength k →
    exec (.unknownKind (byteOf k.code) p) s = .next (s.counted.takeRequest k p)) ∧
  (∀ (s : State) (p : List Byte),
    exec (.move p) s = exec (.unknownKind 1 p) s ∧ exec (.halt p) s = exec (.unknownKind 2 p) s ∧
    exec (.vehicle p) s = exec (.unknownKind 3 p) s ∧ exec (.set p) s = exec (.unknownKind 5 p) s ∧
    exec (.lock p) s = exec (.unknownKind 6 p) s ∧ exec (.permit p) s = exec (.unknownKind 7 p) s ∧
    exec (.forget p) s = exec (.unknownKind 8 p) s ∧ exec (.clearFault p) s = exec (.unknownKind 9 p) s ∧
    exec (.tap p) s = exec (.unknownKind 10 p) s ∧ exec (.countSelect p) s = exec (.unknownKind 11 p) s ∧
    exec (.store p) s = exec (.unknownKind 12 p) s ∧ exec (.park p) s = exec (.unknownKind 13 p) s ∧
    exec (.restart p) s = exec (.unknownKind 14 p) s) ∧
  (∀ (s : State) (tag src a b d : Byte),
    exec (.askChannel tag src a b d) s = exec (.unknownKind 4 [tag, src, 0, a, b, d]) s ∧
    exec (.askProfile tag src a b d) s = exec (.unknownKind 4 [tag, src, 1, a, b, d]) s ∧
    exec (.askIncident tag src a b d) s = exec (.unknownKind 4 [tag, src, 2, a, b, d]) s ∧
    exec (.askCounters tag src a b d) s = exec (.unknownKind 4 [tag, src, 3, a, b, d]) s ∧
    exec (.askLink tag src a b d) s = exec (.unknownKind 4 [tag, src, 4, a, b, d]) s ∧
    exec (.askSetting tag src a b d) s = exec (.unknownKind 4 [tag, src, 5, a, b, d]) s ∧
    exec (.askPermit tag src a b d) s = exec (.unknownKind 4 [tag, src, 6, a, b, d]) s)

/-- R128, R132, R146, R147: a well-formed request whose source names none, a MOVE whose mode or direction, a COUNT_SELECT whose
channel or choice, an ASK whose topic, and a TAP turned on whose phase set names none (section 9.6) are answered MALFORMED with nothing
else changed. -/
def Obligations.NamelessValuesAreMalformed : Prop :=
  (∀ (s : State) (k : RequestKind) (p : List Byte) (tag src : Byte) (rest : List Byte), s.power = .running →
    p = tag :: src :: rest → p.length = payloadLength k → 8 ≤ src.toNat →
    exec (.unknownKind (byteOf k.code) p) s = .next (s.counted.answer tag k .malformed [])) ∧
  (∀ (s : State) (tag src mask dir mode lo hi : Byte), s.power = .running → namesSource src →
    (3 ≤ mode.toNat ∨ (mode.toNat ≤ 1 ∧ 2 ≤ dir.toNat)) →
    exec (.move [tag, src, mask, dir, mode, lo, hi]) s = .next (s.counted.answer tag .move .malformed [])) ∧
  (∀ (s : State) (tag src chan phases : Byte), s.power = .running → namesSource src → 8 ≤ phases.toNat →
    exec (.tap [tag, src, chan, phases, 1]) s = .next (s.counted.answer tag .tap .malformed [])) ∧
  (∀ (s : State) (tag src chan counter choice : Byte), s.power = .running → namesSource src →
    (8 ≤ chan.toNat ∨ 12 ≤ choice.toNat) →
    exec (.countSelect [tag, src, chan, counter, choice]) s =
      .next (s.counted.answer tag .countSelect .malformed [])) ∧
  (∀ (s : State) (tag src topic a b d : Byte), s.power = .running → namesSource src → 7 ≤ topic.toNat →
    exec (.unknownKind (byteOf RequestKind.ask.code) [tag, src, topic, a, b, d]) s =
      .next (s.counted.answer tag .ask .malformed []))

/-- R135, R137: a sensitive request of a source outside the privileged set is answered REFERRED, its REFER notice follows, and
nothing else changes, whatever its fields. -/
def Obligations.UnprivilegedSensitiveIsReferred : Prop :=
  ∀ (s : State) (k : RequestKind) (tag src : Byte) (rest : List Byte) (q : Source), s.power = .running →
    k ∈ [RequestKind.set, .permit, .lock, .forget, .clearFault, .restart, .store, .park] →
    (tag :: src :: rest).length = payloadLength k → sourceOfByte src = some q →
    s.priv.get (Source.index q) = false →
    exec (.unknownKind (byteOf k.code) (tag :: src :: rest)) s =
      .next ((s.counted.answer tag k .referred []).queueReport .refer (.refer tag (byteOf k.code) src 0 rest))

/-! ### MOVE and HALT -/

/-- R134, R135: a MOVE none of whose channels its source is allowed changes nothing but the body link: one outcome per channel of
the mask in ascending number, then the REFER notice if any channel was referred. -/
def Obligations.UnallowedMoveTouchesNoChannel : Prop :=
  ∀ (s : State) (tag src mask dir mode lo hi : Byte) (q : Source), s.power = .running → sourceOfByte src = some q →
    (mode.toNat = 2 ∨ (mode.toNat ≤ 1 ∧ dir.toNat ≤ 1)) →
    (∀ c ∈ channelsOf mask, ¬ s.allows q c) →
    let outcome := fun c : Channel => if (s.perms.get (Source.index q)).get c = .deny then (5 : Byte) else 6
    let answered := s.counted.answer tag .move .done ((channelsOf mask).map fun c => [outcome c])
    ∃ m : Byte, (∀ c : Channel, m.getLsbD c.val =
        (mask.getLsbD c.val && decide ((s.perms.get (Source.index q)).get c = .refer))) ∧
      exec (.move [tag, src, mask, dir, mode, lo, hi]) s =
        .next (if m = 0 then answered else answered.queueReport .refer (.refer tag 1 src m [mode, dir, lo, hi]))

/-- R18, R21, R22, R48, R52, R53, R55, R66, R68, R98, R105, R126, R160: an admitted move of one IDLE channel, of any mode, starts at once
when the sag flag is clear, its start charge fits, and no entry waiting ahead of it fits or blocks: the record R18 settles, the channel's
new state, one pass more for each entry ahead, the STARTED answer, and the frame. With BLANK 0 the queue is empty. R134, R135: a MOVE of
a whole mask disposes of its channels in ascending number, each allowed part taken by its controller on the state that the channels before
it have left, with one outcome each, and then a REFER notice if any was referred. The model's choices: the duties are held in 64..255
whatever the settings (log entry 16), a grant under the park mark sets clear-due and leaves the mark standing also with no operation in
flight (log entry 12), and a target is read as 0..65 535 (log entry 22). -/
def Obligations.MoveStartsIdleChannel : Prop :=
  (∀ (s : State) (tag src mask dirByte lo hi : Byte) (q : Source) (mode : MoveMode) (dir : Dir),
    s.power = .running → sourceOfByte src = some q → (mode = .target ∨ dirByte = byteOf (Dir.code dir)) →
    let perm := fun c : Channel => (s.perms.get (Source.index q)).get c
    let part := fun (a : State × List (List Byte)) (c : Channel) =>
      match perm c with
      | .allow =>
        let r := a.1.takePart c mode dir (lo.toNat + 256 * hi.toNat) q
        (r.1, a.2 ++ [[byteOf (Status.code r.2)]])
      | .deny => (a.1, a.2 ++ [[5]])
      | .refer => (a.1, a.2 ++ [[6]])
    ∃ (cs : List Channel) (referred : Byte), cs.Pairwise (· < ·) ∧ (∀ c : Channel, c ∈ cs ↔ mask.getLsbD c.val = true) ∧
      (∀ c : Channel, referred.getLsbD c.val = (mask.getLsbD c.val && decide (perm c = .refer))) ∧
      let r := cs.foldl part (s.counted, [])
      let answered := r.1.answer tag .move .done r.2
      let modeByte := byteOf (MoveMode.code mode)
      exec (.move [tag, src, mask, dirByte, modeByte, lo, hi]) s =
        .next (if referred = 0 then answered
          else answered.queueReport .refer (.refer tag 1 src referred [modeByte, dirByte, lo, hi]))) ∧
  (∀ (s : State) (c : Channel) (tag src dirByte lo hi : Byte) (q : Source) (mode : MoveMode) (m : Move),
    let sl := s.slice c
    let cfg := sl.cfg
    let pos := sl.trk.position
    s.power = .running → sourceOfByte src = some q → s.allows q c → sl.ctl.motion = .idle → sl.drv.mode = .off →
    m.source = q → settlesTo cfg.travel pos mode dirByte lo hi m →
    (m.mode ≠ .manual → sl.trk.referenced = true ∧ (m.dir = .closing → sl.ctl.held = false)) →
    (m.dir = .opening → min cfg.creditStart cfg.creditMax ≤ sl.ctl.credit) →
    s.supply.sag = false → s.chargeSum + cfg.iStart ≤ s.globals.budget →
    (∀ e ∈ s.queue, e.channel ≠ c ∧ e.passes < 3 ∧ s.globals.budget < s.chargeSum + (s.slice e.channel).cfg.iStart) →
    (cfg.blank = 0 → s.queue = []) →
    ∃ t, exec (.move [tag, src, oneChannel c, dirByte, byteOf (MoveMode.code mode), lo, hi]) s = .next t ∧
      s.othersKept t c ∧
      t = { s with ch := t.ch, queue := t.queue, link := t.link, store := t.store } ∧
      t.queue = (s.queue.map fun e => { e with passes := e.passes + 1 }) ∧
      t.link = (s.counted.answer tag .move .done [[1]]).link ∧
      t.store = { s.store with clearDue := s.store.clearDue || s.store.markStanding } ∧
      let r := t.slice c
      let inch := m.mode = .manual ∧ sl.trk.referenced = false
      let near := m.dir = .closing ∧ sl.trk.referenced = true ∧ pos ≤ (cfg.sealBand : Int) + cfg.slowBand
      let clamped := fun (n : Nat) => max 64 (min 255 n)
      let target := clamped (if inch then cfg.dInch else if near then min cfg.dSeal cfg.dRun else cfg.dRun)
      let first := clamped (min cfg.dStart target)
      r.cfg = cfg ∧ r.trk = sl.trk ∧
      r.ctl =
        { sl.ctl with
          motion := drivenIn m.dir, move := some m, slot := none
          holdTimer := if m.mode = .manual then some cfg.holdMs else none
          recovery := 0 } ∧
      r.drv =
        { mode := .drive, dir := some m.dir, profile := if inch then .inch else .normal, target := target, staged := first,
          applied := first, silence := none, brakeLimit := none } ∧
      r.arb =
        { held := true, startCharge := cfg.iStart, runCharge := cfg.iRun, inBlanking := decide (cfg.blank ≠ 0),
          charge := if cfg.blank = 0 then cfg.iRun else cfg.iStart } ∧
      r.est =
        { phase := some (phaseIn m.dir), sampleNo := 0, filter := none, readings := [], newest := none
          blankTimer := if cfg.blank = 0 then none else some cfg.startStallMs } ∧
      r.vdu =
        { window := [], decided := false, stallTimer := some cfg.startStallMs, firstEdge := false, newest := none } ∧
      r.prf =
        { sl.prf with
          record := match m.dir with
            | .closing => some (openRecord pos sl.trk.referenced sl.ctl.held)
            | .opening => sl.prf.record } ∧
      r.ctr =
        { sl.ctr with a := sl.ctr.a.count (match m.dir with | .closing => .closeRuns | .opening => .openRuns) 1 })

/-- R21, R55, R61: while the sag flag is set, an admitted EXPRESS close of an IDLE channel is QUEUED at the tail and not granted. -/
def Obligations.SagQueuesMove : Prop :=
  ∀ (s : State) (c : Channel) (tag src lo hi : Byte) (q : Source),
    let sl := s.slice c
    s.power = .running → sourceOfByte src = some q → s.allows q c → sl.ctl.motion = .idle →
    sl.trk.referenced = true → sl.ctl.held = false → s.isQueued c = false → s.supply.sag = true →
    ∃ t, exec (.move [tag, src, oneChannel c, 0, 1, lo, hi]) s = .next t ∧
      s.othersKept t c ∧ t.queue = s.queue ++ [{ channel := c, passes := 0 }] ∧
      t = { s with ch := t.ch, queue := t.queue, link := t.link } ∧
      t.link = (s.counted.answer tag .move .done [[2]]).link ∧
      t.slice c =
        { sl with
          ctl :=
            { sl.ctl with
              motion := .waiting, move := some { mode := .express, dir := .closing, target := 0, source := q },
              slot := none, holdTimer := none } }

/-- R19: the refusals of a move of one allowed channel, in their order, for every mode. Each leaves everything but the body link as it was,
but that a REFUSED_THERMAL is counted. A null move meets the first two only. The target is read as 0..65 535, the model's choice (log
entry 22). -/
def Obligations.MoveRefusals : Prop :=
  ∀ (s : State) (c : Channel) (tag src lo hi : Byte) (q : Source),
    let sl := s.slice c
    let k := sl.ctl
    s.power = .running → sourceOfByte src = some q → s.allows q c →
    let move := fun (dir mode : Byte) => exec (.move [tag, src, oneChannel c, dir, mode, lo, hi]) s
    let refused := fun (code : Byte) =>
      (.next (s.counted.answer tag .move .done [[code]]) : Host.Outcome State Fault Refusal)
    (∀ dir mode : Byte, ((mode.toNat ≤ 1 ∧ dir.toNat ≤ 1) ∨ mode = 2) → k.motion = .faulted → move dir mode = refused 11) ∧
    (∀ dir mode : Byte, ((mode = 1 ∧ dir.toNat ≤ 1) ∨ mode = 2) → k.motion ≠ .faulted → sl.trk.referenced = false →
      move dir mode = refused 8) ∧
    (∀ (dirByte : Byte) (mode : MoveMode) (m : Move), settlesTo sl.cfg.travel sl.trk.position mode dirByte lo hi m →
      k.motion ≠ .faulted → (m.mode = .manual ∨ sl.trk.referenced = true) →
      let reversing := k.motion = .reversing ∨ (k.motion = .braking ∧ k.afterBrake = .reverse)
      let answer := move dirByte (byteOf (MoveMode.code mode))
      (m.dir = .closing → m.mode ≠ .manual → k.held = true → answer = refused 7) ∧
      (m.dir = .closing → (m.mode = .manual ∨ k.held = false) → reversing → answer = refused 10) ∧
      (m.dir = .opening → k.motion ≠ .opening → ¬reversing → k.credit < min sl.cfg.creditStart sl.cfg.creditMax →
        answer = .next ((s.counted.countEvent c .thermalRefusals).answer tag .move .done [[9]])))


/-- R18, R20, R21, R23, R24, R25, R27: an admitted move of any mode of one allowed channel that is neither IDLE nor FAULTED, and a null
move in every motion state. A record is merged while WAITING, in the direction of the drive, and as an opening into a reversal. Against
the drive it brakes with the record pending, and in BRAKING it is pending. A MANUAL record starts the hold timer and any other stops it,
but for one merged into a reversal. A null move is an EXPRESS opening at or past TRAVEL, or a TARGET move to within 2 counts of the
position. A target is read as 0..65 535, the model's choice (log entry 22). -/
def Obligations.MoveMergesOrBrakes : Prop :=
  (∀ (s : State) (c : Channel) (tag src dirByte lo hi : Byte) (q : Source) (mode : MoveMode) (m : Move),
    let sl := s.slice c
    let k := sl.ctl
    let hold : Timer := if m.mode = .manual then some sl.cfg.holdMs else none
    let move := exec (.move [tag, src, oneChannel c, dirByte, byteOf (MoveMode.code mode), lo, hi]) s
    let takenAs := fun (code : Byte) (f : Controller → Controller) =>
      move = .next ((s.counted.modCtl c f).answer tag .move .done [[code]])
    let credited := m.dir = .opening → min sl.cfg.creditStart sl.cfg.creditMax ≤ k.credit
    s.power = .running → sourceOfByte src = some q → s.allows q c → m.source = q →
    settlesTo sl.cfg.travel sl.trk.position mode dirByte lo hi m →
    (m.mode ≠ .manual → sl.trk.referenced = true ∧ (m.dir = .closing → k.held = false)) →
    ((k.motion = drivenIn m.dir ∨ (k.motion = .waiting ∧ credited)) →
      takenAs 3 fun t => { t with move := some m, holdTimer := hold }) ∧
    (k.motion = drivenIn (match m.dir with | .closing => .opening | .opening => .closing) → sl.drv.mode = .drive → credited →
      ∃ t, move = .next t ∧ s.othersKept t c ∧ t = { s with ch := t.ch, link := t.link } ∧
        t.link = (s.counted.answer tag .move .done [[4]]).link ∧
        let r := t.slice c
        r.ctl =
          { k with
            motion := .braking, afterBrake := .requeue, endReason := some .halted, move := none, slot := some m,
            holdTimer := hold, recovery := 0 } ∧
        r.drv = { sl.drv with mode := .brake, applied := 0, silence := some 10, brakeLimit := some 150 } ∧
        r.arb = sl.arb ∧ r.trk = sl.trk ∧ r.cfg = sl.cfg ∧ r.ctr = sl.ctr ∧ sl.phaseEnds r) ∧
    (m.dir = .opening → (k.motion = .reversing ∨ (k.motion = .braking ∧ k.afterBrake = .reverse)) →
      takenAs 3 fun t => { t with reversalTarget := max t.reversalTarget m.target }) ∧
    (k.motion = .braking → k.afterBrake ≠ .reverse → credited →
      takenAs 4 fun t => { t with slot := some m, holdTimer := hold, afterBrake := .requeue })) ∧
  (∀ (s : State) (c : Channel) (tag src lo hi dir mode : Byte) (q : Source),
    let sl := s.slice c
    let goal := min (lo.toNat + 256 * hi.toNat) sl.cfg.travel
    let null := exec (.move [tag, src, oneChannel c, dir, mode, lo, hi]) s
    s.power = .running → sourceOfByte src = some q → s.allows q c → sl.trk.referenced = true →
    ((mode = 1 ∧ dir = 1 ∧ (sl.cfg.travel : Int) ≤ sl.trk.position) ∨
      (mode = 2 ∧ goal ≠ 0 ∧ ((goal : Int) - sl.trk.position).natAbs ≤ 2)) →
    ((sl.ctl.motion = .idle ∨ sl.ctl.motion = .reversing ∨ (sl.ctl.motion = .braking ∧ sl.ctl.afterBrake = .reverse)) →
      null = .next (s.counted.answer tag .move .done [[0]])) ∧
    (sl.ctl.motion = .waiting → ∃ u, s.counted.waitEnds u c ∧
      null = .next ((u.queueReport .change (u.changeOf c .moveEnd (some .targetReached) none none)).answer tag .move .done
        [[0]])) ∧
    ((sl.ctl.motion = .closing ∨ sl.ctl.motion = .opening) → sl.drv.mode = .drive →
      ∃ t, null = .next t ∧ s.brakesTo t c .goIdle .targetReached ∧ t = { s with ch := t.ch, link := t.link } ∧
        t.link = (s.counted.answer tag .move .done [[0]]).link) ∧
    (sl.ctl.motion = .braking → sl.ctl.afterBrake ≠ .reverse →
      null = .next ((s.counted.modCtl c fun t =>
        { t with
          slot := none, holdTimer := none, afterBrake := .goIdle, endReason := some .targetReached }).answer tag .move
            .done [[0]])))

/-- R24, R27, R136: a HALT of one channel from any named source, whatever the permission table holds, by the channel's motion
state. A HALT of a whole mask halts its channels in ascending number, each on the state that the channels before it have left. Every
outcome is DONE. -/
def Obligations.HaltStopsChannel : Prop :=
  (∀ (s : State) (tag src mask : Byte), s.power = .running → namesSource src →
    ∃ cs : List Channel, cs.Pairwise (· < ·) ∧ (∀ c : Channel, c ∈ cs ↔ mask.getLsbD c.val = true) ∧
      exec (.halt [tag, src, mask]) s =
        .next ((cs.foldl State.haltPart s.counted).answer tag .halt .done (cs.map fun _ => [0]))) ∧
  (∀ (s : State) (c : Channel) (tag src : Byte), s.power = .running → namesSource src →
    let sl := s.slice c
    let halt := exec (.halt [tag, src, oneChannel c]) s
    ((sl.ctl.motion = .idle ∨ sl.ctl.motion = .faulted) → halt = .next (s.counted.answer tag .halt .done [[0]])) ∧
    (sl.ctl.motion = .waiting → ∃ u, s.counted.waitEnds u c ∧
      halt = .next ((u.queueReport .change (u.changeOf c .moveEnd (some .halted) none none)).answer tag .halt .done [[0]])) ∧
    (isDriven sl.ctl.motion → sl.drv.mode = .drive → ∃ t, halt = .next t ∧ s.brakesTo t c .goIdle .halted ∧
      t = { s with ch := t.ch, link := t.link } ∧ t.link = (s.counted.answer tag .halt .done [[0]]).link) ∧
    (sl.ctl.motion = .braking →
      halt = .next ((s.counted.modCtl c fun t =>
        match t.afterBrake with
        | .reverse => { t with afterBrake := .goIdle, endReason := some .halted }
        | .goIdle => { t with slot := none, holdTimer := none }
        | .requeue =>
          { t with slot := none, holdTimer := none, afterBrake := .goIdle, endReason := some .halted }).answer tag .halt
            .done [[0]])))

/-! ### Open requests -/

/-- R81: a VEHICLE of any named source. -/
def Obligations.VehicleIsHeld : Prop :=
  ∀ (s : State) (tag src speed temp : Byte), s.power = .running → namesSource src →
    let held := max (-40) (min 125 temp.toInt)
    let taken : State :=
      { s.counted with
        vehicle := { speed := some speed.toNat, speedTimer := some 1000, temp := held, tempKnown := true } }
    exec (.vehicle [tag, src, speed, temp]) s =
      .next (if -40 ≤ temp.toInt ∧ temp.toInt ≤ 125 then taken.answer tag .vehicle .done []
        else taken.answer tag .vehicle .clamped [i32 held])

/-- R147, R150, R101, R118, R124, R127, R139, R145: an ASK of each topic from any named source is answered DONE with the fields of its
topic, in their order and coding, as they stand once its own frame is counted, or CLAMPED or MALFORMED as its topic gives, and changes
nothing but the body link. The model's choices in it: the place in the start queue and the s of the held timer (log entry 17), a class
NONE, the fields of an absent incident, the order of the counters and that of the two queue counts (log entry 19), the flags of an absent newest sample and run record
and the channel byte of a global item (log entry 28). -/
def Obligations.AskAnswersItsTopic : Prop :=
  ((∀ n : Nat, u8 n = [BitVec.ofNat 8 n] ∧ u16 n = [BitVec.ofNat 8 n, BitVec.ofNat 8 (n / 256)] ∧
      u32 n = [BitVec.ofNat 8 n, BitVec.ofNat 8 (n / 256), BitVec.ofNat 8 (n / 65536), BitVec.ofNat 8 (n / 16777216)]) ∧
    (∀ x : Int, i8 x = [BitVec.ofInt 8 x] ∧ i16 x = [BitVec.ofInt 8 x, BitVec.ofInt 8 (x / 256)] ∧
      i32 x = [BitVec.ofInt 8 x, BitVec.ofInt 8 (x / 256), BitVec.ofInt 8 (x / 65536), BitVec.ofInt 8 (x / 16777216)]) ∧
    flag false = [0] ∧ flag true = [1] ∧ codeOrNone none = [0xFF] ∧ (∀ n, codeOrNone (some n) = [BitVec.ofNat 8 n]) ∧
    [Motion.idle, .waiting, .closing, .opening, .reversing, .braking, .faulted].map Motion.code = [0, 1, 2, 3, 4, 5, 6] ∧
    [MoveMode.manual, .express, .target].map MoveMode.code = [0, 1, 2] ∧
    [IncidentMode.manual, .express, .target, .reversal, .none].map IncidentMode.code = [0, 1, 2, 3, 255] ∧
    [Dir.closing, .opening].map Dir.code = [0, 1] ∧
    [Source.driver, .codriver, .rearLeft, .rearRight, .roofConsole, .remote, .body, .service].map Source.code =
      [0, 1, 2, 3, 4, 5, 6, 7] ∧
    [AfterBrake.goIdle, .reverse, .requeue].map AfterBrake.code = [0, 1, 2] ∧
    [DriveMode.off, .drive, .brake].map DriveMode.code = [0, 1, 2] ∧
    [SampleClass.none, .low, .watch, .trip].map SampleClass.code = [0, 1, 2, 3] ∧
    [ZoneState.empty, .learned, .stale].map ZoneState.code = [0, 1, 2] ∧
    [RunOutcome.qualified, .notQualified, .abandoned, .discarded, .none].map RunOutcome.code = [0, 1, 2, 3, 255] ∧
    [RunFailure.notReferenced, .held, .verdict, .shortStart].map RunFailure.code = [0, 1, 2, 3] ∧
    [IncidentKind.bandPinch, .stallPinch, .openObstruct, .desync, .hallFault, .overcurrent, .supplyCut].map
      IncidentKind.code = [0, 1, 2, 3, 4, 5, 6] ∧
    [AggMode.run, .count, .rise].map AggMode.code = [0, 1, 2] ∧
    [CounterChoice.closeRuns, .openRuns, .bandReversals, .stallReversals, .samples, .invalidSamples, .watchSamples,
      .tripSamples, .hallInvalid, .disturbedSamples, .zoneUpdates, .thermalRefusals].map CounterChoice.code =
      [0, 1, 2, 3, 4, 5, 6, 7, 8, 9, 10, 11] ∧
    [Perm.deny, .allow, .refer].map Perm.code = [0, 1, 2]) ∧
  (∀ (q : List QueueEntry) (c : Channel), (∀ e ∈ q, e.channel ≠ c) → queuePlace c q = (0, 0)) ∧
  (∀ (before after : List QueueEntry) (e : QueueEntry), (∀ x ∈ before, x.channel ≠ e.channel) →
    queuePlace e.channel (before ++ e :: after) = (before.length, e.passes)) ∧
  ∀ (s : State) (tag src a b d : Byte) (c : Channel), s.power = .running → namesSource src →
    let u := s.counted
    let sl := u.slice c
    let k := sl.ctl
    let answered := fun (i : Instr) (st : Status) (fields : List (List Byte)) => exec i s = .next (u.answer tag .ask st fields)
    let moveOf := fun (m : Option Move) =>
      match m with
      | some m => [u8 (MoveMode.code m.mode), u8 (Dir.code m.dir), u16 m.target, u8 (Source.code m.source)]
      | none => [[0xFF], [0xFF], u16 0, [0xFF]]
    answered (.askChannel tag src (channelByte c) 0 d) .done
      ([u8 (Motion.code k.motion)] ++ moveOf k.move ++ moveOf k.slot ++
        [u8 (AfterBrake.code k.afterBrake), u16 (k.holdTimer.getD 0), flag k.reversalOpen, u8 k.streak, flag k.held,
          u16 ((k.heldTimer.getD 0 + 999) / 1000), u32 k.credit, u8 (queuePlace c u.queue).1, u8 (queuePlace c u.queue).2,
          flag sl.arb.held, u32 sl.arb.charge, u8 (DriveMode.code sl.drv.mode), codeOrNone (sl.drv.dir.map Dir.code),
          u8 sl.drv.applied]) ∧
    answered (.askChannel tag src (channelByte c) 1 d) .done
      [i16 sl.trk.position, u8 sl.trk.uncertainty, flag sl.trk.referenced, u8 (zoneOf sl.cfg.travel sl.trk.position).val,
        u8 (sl.trk.history.filter fun v => !v).length] ∧
    answered (.askChannel tag src (channelByte c) 2 d) .done
      ((match sl.est.newest with
        | some x => [u16 x.f, u16 x.bEff, u16 x.allowance, i16 x.residue]
        | none => [u16 0, u16 0, u16 0, i16 0]) ++
        (match sl.vdu.newest with
         | some x => [u16 x.tl, u16 x.wl, u8 (SampleClass.code x.cls), flag x.valid, flag x.disturbed]
         | none => [u16 0, u16 0, [0xFF], flag false, flag false]) ++
        [u8 sl.vdu.window.length, u8 (sl.vdu.window.filter fun x => x.valid).length, flag sl.vdu.decided,
          flag sl.vdu.stallTimer.isSome, u16 (sl.vdu.stallTimer.getD 0),
          codeOrNone (sl.vdu.stallTimer.map fun _ => if sl.vdu.firstEdge then 1 else 0)]) ∧
    answered (.askChannel tag src a 3 d) .done
      [u16 u.supply.value, flag u.supply.sag, flag u.supply.stepWindow.isSome, i16 (u.motion.rest.getD 0),
        u16 u.motion.dlev, flag u.motion.failed, u8 (u.vehicle.speed.getD 0), u16 (u.vehicle.speedTimer.getD 0),
        i8 u.vehicle.temp, flag u.vehicle.tempKnown] ∧
    (8 ≤ a.toNat → ∀ part : Byte, part ≠ 3 → answered (.askChannel tag src a part d) .malformed []) ∧
    (4 ≤ b.toNat → answered (.askChannel tag src a b d) .malformed []) ∧
    (let first := min 63 a.toNat
     let number := min (max 1 (min 8 b.toNat)) (64 - first)
     let p := sl.prf
     let z := p.lastRun
     answered (.askProfile tag src (channelByte c) a b) (if first = a.toNat ∧ number = b.toNat then .done else .clamped)
      ([u8 c.val, u8 first, u8 number, u16 p.runCounter.toNat] ++
        (((p.zones.toList.drop first).take number).flatMap fun x =>
          [u8 (ZoneState.code x.state), u16 x.baseline, u16 x.spread, u16 x.stamp.toNat, i8 x.tz,
            u16 (p.runCounter - x.stamp).toNat]) ++
        [u8 (RunOutcome.code z.outcome), codeOrNone (z.failed.map RunFailure.code), i16 z.startPos,
          (List.range 8).map fun i => BitVec.ofNat 8 (z.cleanMask.toNat / 2 ^ (8 * i)),
          u8 z.updated, u8 z.madeStale, u8 z.madeEmpty, u16 z.runCounter.toNat] ++
        (match p.record with
         | some x => [flag true, i16 x.startPos, flag x.referencedAtStart, flag x.heldAtStart, flag x.unreferencedSeen,
             flag x.verdictMark]
         | none => [flag false, i16 0, flag false, flag false, flag false, flag false]))) ∧
    (8 ≤ d.toNat → answered (.askProfile tag src d a b) .malformed []) ∧
    (let found := u.log.lookup (BitVec.ofNat 16 (a.toNat + 256 * b.toNat))
     answered (.askIncident tag src a b d) .done
      ((match found.1 with
        | some x =>
          [u16 x.tag.toNat, u32 x.time.toNat, u8 x.channel.val, u8 (IncidentKind.code x.kind), u8 (Motion.code x.motion),
            u8 (IncidentMode.code x.mode), codeOrNone (x.source.map Source.code), i16 x.position, u8 x.zone.val, u8 x.duty,
            u16 x.supply, i8 x.temp, u8 x.streak, flag x.held, u16 x.runCounter.toNat] ++
          (match x.pinch with
           | some g => [i16 g.firstHit, u16 g.reversalTarget]
           | none => []) ++
          (match x.band with
           | some g => [i16 g.residue, u16 g.tl, u8 (AggMode.code g.mode), u16 g.hitMask.toNat, u8 g.hitIndex,
               u8 g.validLength, u8 g.aDist, u8 g.aSupply, u8 g.aSpeed]
           | none => [])
        | none => [u16 0, u32 0, u8 0, [0xFF], [0xFF], [0xFF], [0xFF], i16 0, u8 0, u8 0, u16 0, i8 0, u8 0, flag false, u16 0]) ++
        [u8 u.log.ring.length, u16 u.log.oldestTag.toNat, u16 u.log.nextTag.toNat, flag found.2])) ∧
    answered (.askCounters tag src (channelByte c) b d) .done
      [u32 sl.ctr.a.value.toNat, u8 (CounterChoice.code sl.ctr.a.select), u32 sl.ctr.b.value.toNat,
        u8 (CounterChoice.code sl.ctr.b.select), u32 sl.ctr.c.value.toNat, u8 (CounterChoice.code sl.ctr.c.select)] ∧
    (8 ≤ a.toNat → answered (.askCounters tag src a b d) .malformed []) ∧
    (let n := u.link.counters
     answered (.askLink tag src a b d) .done
      [u32 n.framesOk.toNat, u32 n.dropRunt.toNat, u32 n.dropOversize.toNat, u32 n.dropGap.toNat, u32 n.dropLine.toNat,
        u32 n.dropCheck.toNat, u32 n.unknownKind.toNat, u32 n.badLength.toNat, u32 n.urgentLost.toNat,
        u32 n.routineLost.toNat, u8 u.link.urgent.length, u8 u.link.routine.length, u8 u.link.urgentRun]) ∧
    (∀ i, itemOfCode a.toNat = some (.perChannel i) →
      answered (.askSetting tag src a (channelByte c) d) .done [[a], [channelByte c], i32 (chItemValue sl.cfg i)]) ∧
    (∀ i, itemOfCode a.toNat = some (.perChannel i) → 8 ≤ b.toNat →
      answered (.askSetting tag src a b d) .malformed []) ∧
    (∀ i, itemOfCode a.toNat = some (.global i) →
      answered (.askSetting tag src a b d) .done [[a], [b], i32 (glItemValue u.globals i)]) ∧
    (itemOfCode a.toNat = none → answered (.askSetting tag src a b d) .malformed []) ∧
    (∀ x, sourceOfByte a = some x →
      answered (.askPermit tag src a b d) .done
        ([[a]] ++ ((List.finRange 8).map fun i => u8 (Perm.code ((u.perms.get (Source.index x)).get i))) ++
          [flag (u.priv.get (Source.index x)),
            [BitVec.ofNat 8 (((List.finRange 8).map fun i => if u.priv.get i then 2 ^ i.val else 0).sum)]])) ∧
    (8 ≤ a.toNat → answered (.askPermit tag src a b d) .malformed [])

/-- R124: the record an ASK INCIDENT returns, in a ring of at most 32 records whose tags run consecutively up to the next tag
(R120). -/
def Obligations.IncidentLookup : Prop :=
  ∀ (l : IncidentLog) (tag : BitVec 16), l.TagLaw → l.ring.length ≤ 32 →
    (l.ring = [] → l.lookup tag = (none, false) ∧ l.oldestTag = l.nextTag) ∧
    (∀ r ∈ l.ring, r.tag = tag → l.lookup tag = (some r, true)) ∧
    (∀ x xs, l.ring = x :: xs → (∀ r ∈ l.ring, r.tag ≠ tag) → l.lookup tag = (some x, false)) ∧
    (∀ x xs, l.ring = x :: xs → l.oldestTag = x.tag)

/-- R130: a TAP from any named source. -/
def Obligations.TapSelects : Prop :=
  ∀ (s : State) (tag src chan phases onOff : Byte) (c : Channel), s.power = .running → namesSource src →
    let off : State :=
      { s.counted with
        tap := { channel := none, phases := { closing := false, opening := false, reversing := false }, skipped := 0 } }
    (exec (.tap [tag, src, chan, phases, 0]) s = .next (off.answer tag .tap .done [])) ∧
    (exec (.tap [tag, src, channelByte c, 0, 1]) s = .next (off.answer tag .tap .done [])) ∧
    (1 ≤ phases.toNat → phases.toNat ≤ 7 → exec (.tap [tag, src, channelByte c, phases, 1]) s =
      .next (({ s.counted with
        tap :=
          { channel := some c,
            phases := { closing := phases.getLsbD 0, opening := phases.getLsbD 1, reversing := phases.getLsbD 2 },
            skipped := 0 } } : State).answer tag .tap .done [])) ∧
    ((2 ≤ onOff.toNat ∨ (onOff = 1 ∧ 8 ≤ chan.toNat)) →
      exec (.tap [tag, src, chan, phases, onOff]) s = .next (s.counted.answer tag .tap .malformed []))

/-- R128: a COUNT_SELECT from any named source: choices 0 to 3 belong to counter A, 4 to 7 to B, 8 to 11 to C. -/
def Obligations.CountSelectAims : Prop :=
  ∀ (s : State) (tag src counter choice : Byte) (c : Channel) (x : CounterChoice), s.power = .running → namesSource src →
    counterChoiceOfByte choice = some x →
    let request := Instr.countSelect [tag, src, channelByte c, counter, choice]
    (counter = 0 → choice.toNat ≤ 3 → exec request s =
      .next ((s.counted.modCtr c fun k => { k with a := { value := 0, select := x } }).answer tag .countSelect .done [])) ∧
    (counter = 1 → 4 ≤ choice.toNat → choice.toNat ≤ 7 → exec request s =
      .next ((s.counted.modCtr c fun k => { k with b := { value := 0, select := x } }).answer tag .countSelect .done [])) ∧
    (counter = 2 → 8 ≤ choice.toNat → exec request s =
      .next ((s.counted.modCtr c fun k => { k with c := { value := 0, select := x } }).answer tag .countSelect .done [])) ∧
    (counter.toNat ≠ choice.toNat / 4 → exec request s = .next (s.counted.answer tag .countSelect .malformed []))

/-! ### Sensitive requests -/

/-- R154 tests 4 and 5 with R14, R35, R37, R57, R91, R100, R114, R115, R117, R155: the codes, fields and ranges of the per-channel items
(R154, and the tables of Chapters 3 to 6 and R155), and what a SET of one makes of its item, of the items and state that follow it, of the
rest of the part, and of the answer, which follows a REFERENCED notice of TRAVEL (R9, R144). A MODE that names none is taken as the mode in
force. A SET of I_START, I_RUN or KIND scans: what such a scan may start is left open, and nothing is where it can start no channel. -/
def Obligations.SetTakesChannelItem : Prop :=
  chItems =
    [.kind, .travel, .sealBand, .slowBand, .ci, .cp, .filterShift, .bDefault, .bFloor, .bCeil, .tBase, .tCeil, .mEmpty,
      .mStale, .mHeld, .kt, .winLen, .mode, .k, .blank, .stallMs, .startStallMs, .revDist, .revMinPos, .openTol, .nHeld,
      .heldS, .holdMs, .iStart, .iRun, .creditMax, .creditStart, .recover, .dStart, .dRun, .dSeal, .dInch, .ramp,
      .learnShift, .learnStepMax, .sInit, .sMax, .ageRuns, .ageTemp] ∧
  (∀ (n : Nat) (i : ChItem), itemOfCode n = some (.perChannel i) ↔ chItems[n]? = some i) ∧
  (∀ k : ChannelSettings, chItems.map (chItemValue k) = ([Kind.code k.kind, k.travel, k.sealBand, k.slowBand, k.ci, k.cp,
    k.filterShift, k.bDefault, k.bFloor, k.bCeil, k.tBase, k.tCeil, k.mEmpty, k.mStale, k.mHeld, k.kt, k.winLen,
    AggMode.code k.mode, k.k, k.blank, k.stallMs, k.startStallMs, k.revDist, k.revMinPos, k.openTol, k.nHeld, k.heldS, k.holdMs,
    k.iStart, k.iRun, k.creditMax, k.creditStart, k.recover, k.dStart, k.dRun, k.dSeal, k.dInch, k.ramp, k.learnShift,
    k.learnStepMax, k.sInit, k.sMax, k.ageRuns, k.ageTemp] : List Nat).map fun n : Nat => (n : Int)) ∧
  [Kind.window, .vent, .roofPanel, .roofShade].map Kind.code = [0, 1, 2, 3] ∧
  [AggMode.run, .count, .rise].map AggMode.code = [0, 1, 2] ∧
  let range : GlobalSettings → ChannelSettings → ChItem → Int × Int := fun g k i =>
    match i with
    | .kind => (0, 3)
    | .travel => (64, 4000)
    | .sealBand => (0, min 400 ((k.travel : Int) / 4))
    | .slowBand => (0, 1000)
    | .ci | .cp | .kt => (0, 255)
    | .filterShift => (0, 4)
    | .bDefault => (0, 32767)
    | .bFloor => (0, k.bCeil)
    | .bCeil => (k.bFloor, 32767)
    | .tBase => (0, 500)
    | .tCeil => (1, 1000)
    | .mEmpty | .mStale | .mHeld => (0, 200)
    | .winLen => (4, 16)
    | .mode => (0, 2)
    | .k => (1, k.winLen)
    | .blank => (0, 64)
    | .stallMs => (5, 1000)
    | .startStallMs => (20, 5000)
    | .revDist | .revMinPos => (0, 4000)
    | .openTol => (0, 400)
    | .nHeld => (2, 8)
    | .heldS => (1, 600)
    | .holdMs => (50, 1000)
    | .iStart => (0, g.budget)
    | .iRun => (0, k.iStart)
    | .creditMax => (10000, 600000)
    | .creditStart => (0, 600000)
    | .recover => (1, 100)
    | .dStart | .dRun | .dSeal | .dInch => (64, 255)
    | .ramp => (1, 255)
    | .learnShift => (1, 4)
    | .learnStepMax => (1, 200)
    | .sInit => (0, k.sMax)
    | .sMax => (1, 1023)
    | .ageRuns => (4, 1000)
    | .ageTemp => (5, 60)
  (∀ (g : GlobalSettings) (k : ChannelSettings) (i : ChItem), chItemRange g k i = range g k i) ∧
  ∀ (s : State) (c : Channel) (tag src item b0 b1 b2 b3 : Byte) (i : ChItem),
    let v := readI32 b0 b1 b2 b3
    let old := s.slice c
    let lo := (range s.globals old.cfg i).1
    let hi := (range s.globals old.cfg i).2
    let w := if i = .mode ∧ (v < 0 ∨ 2 < v) then (AggMode.code old.cfg.mode : Int) else max lo (min hi v)
    let status := if w = v then Status.done else Status.clamped
    let content := if w = v then [] else [i32 w]
    s.power = .running → s.privileged src → itemOfCode item.toNat = some (.perChannel i) → s.store.locked = false →
    (i = .kind → 0 ≤ v ∧ v ≤ 3) → (i = .travel → old.ctl.motion = .idle ∨ old.ctl.motion = .faulted) →
    let answered := fun (u : State) => u.answer tag .set status content
    ∃ t, exec (.set [tag, src, item, channelByte c, b0, b1, b2, b3]) s = .next t ∧
      chItemValue (t.slice c).cfg i = w ∧ t.globals = s.globals ∧ t.perms = s.perms ∧ t.priv = s.priv ∧
      t.store.locked = false ∧ t.store.image = s.store.image ∧
      (∀ d : Channel, d ≠ c → (t.slice d).cfg = (s.slice d).cfg ∧ (t.slice d).prf.zones = (s.slice d).prf.zones) ∧
      let new := t.slice c
      (i ∉ [.travel, .winLen, .bFloor, .bCeil, .sMax, .nHeld, .creditMax, .iStart, .iRun, .kind] →
        (∀ j : ChItem, j ≠ i → chItemValue new.cfg j = chItemValue old.cfg j) ∧
        t = answered (s.counted.modCfg c fun _ => new.cfg)) ∧
      (i = .travel →
        new.cfg = { old.cfg with travel := w.toNat, sealBand := min old.cfg.sealBand (w.toNat / 4) } ∧
        new.trk = { old.trk with referenced := false } ∧ new.prf = { old.prf with zones := emptyZones } ∧
        let u := s.counted.modSlice c fun x => { x with cfg := new.cfg, trk := new.trk, prf := new.prf }
        t =
          answered
            (if old.trk.referenced then u.queueReport .change (t.changeOf c .referenced none none none) else u)) ∧
      (i = .winLen →
        new.cfg = { old.cfg with winLen := w.toNat, k := min old.cfg.k w.toNat } ∧
        new.vdu = { old.vdu with window := old.vdu.window.take w.toNat } ∧
        t = answered (s.counted.modSlice c fun x => { x with cfg := new.cfg, vdu := new.vdu })) ∧
      (i = .bFloor → new.cfg = { old.cfg with bFloor := w.toNat }) ∧
      (i = .bCeil → new.cfg = { old.cfg with bCeil := w.toNat }) ∧
      (i = .bFloor ∨ i = .bCeil →
        t =
          answered
            (s.counted.modSlice c fun x => { x with cfg := new.cfg, prf := { x.prf with zones := new.prf.zones } }) ∧
        ∀ z : Fin 64, new.prf.zones[z] =
          if old.prf.zones[z].state = .empty then old.prf.zones[z]
          else { old.prf.zones[z] with
            baseline := max new.cfg.bFloor (min new.cfg.bCeil old.prf.zones[z].baseline) }) ∧
      (i = .sMax →
        new.cfg = { old.cfg with sMax := w.toNat, sInit := min old.cfg.sInit w.toNat } ∧
        t =
          answered
            (s.counted.modSlice c fun x => { x with cfg := new.cfg, prf := { x.prf with zones := new.prf.zones } }) ∧
        ∀ z : Fin 64, new.prf.zones[z] = { old.prf.zones[z] with spread := min old.prf.zones[z].spread w.toNat }) ∧
      (i = .nHeld →
        new.cfg = { old.cfg with nHeld := w.toNat } ∧ new.ctl = { old.ctl with streak := min old.ctl.streak w.toNat }) ∧
      (i = .creditMax →
        new.cfg = { old.cfg with creditMax := w.toNat } ∧
        new.ctl = { old.ctl with credit := min old.ctl.credit w.toNat }) ∧
      (i = .nHeld ∨ i = .creditMax →
        t = answered (s.counted.modSlice c fun x => { x with cfg := new.cfg, ctl := new.ctl })) ∧
      (i = .iStart → new.cfg = { old.cfg with iStart := w.toNat, iRun := min old.cfg.iRun w.toNat }) ∧
      (i = .iRun → new.cfg = { old.cfg with iRun := w.toNat }) ∧
      (i = .kind →
        let loads := fun (kind : Kind) (start run : Nat) =>
          new.cfg =
            { old.cfg with kind := kind, iStart := min start s.globals.budget, iRun := min run s.globals.budget }
        (v = 0 → loads .window 9000 4000) ∧ (v = 1 → loads .vent 5000 2000) ∧ (v = 2 → loads .roofPanel 12000 5000) ∧
        (v = 3 → loads .roofShade 3000 1500)) ∧
      (i = .iStart ∨ i = .iRun ∨ i = .kind →
        t = { s with ch := t.ch, queue := t.queue, store := t.store, link := t.link } ∧
        t.link = (answered s.counted).link ∧
        (s.supply.sag = true ∨ s.queue = [] → t = answered (s.counted.modCfg c fun _ => new.cfg)))

/-- R154 tests 3 to 5 with R57, R62, R155: the codes, fields and ranges of the global items (R154, and the tables of Chapters 3 and 4 and
R155), and what a SET of one makes of its item, of U_CUT and of the charges, and of the rest of the part, and the answer. The channel byte is disregarded. A SET of BUDGET scans: what such a scan may start is left open, and
nothing is where it can start no channel. That URGENT_KINDS takes a negative value as the empty set is the model's choice
(log entry 20). -/
def Obligations.SetTakesGlobalItem : Prop :=
  glItems =
    [.budget, .uSag, .uCut, .uStep, .stepMs, .aStep, .kd, .dMax, .dRough, .dDecay, .kv, .vMax, .wrr, .urgentKinds,
      .lockAtStart] ∧
  (∀ (n : Nat) (i : GlItem), itemOfCode n = some (.global i) ↔ 64 ≤ n ∧ glItems[n - 64]? = some i) ∧
  (∀ g : GlobalSettings, glItems.map (glItemValue g) = ([g.budget, g.uSag, g.uCut, g.uStep, g.stepMs, g.aStep, g.kd,
    g.dMax, g.dRough, g.dDecay, g.kv, g.vMax, Weight.code g.wrr, g.urgentKinds.toNat, if g.lockAtStart then 1 else 0] :
    List Int)) ∧
  [Weight.strict, .four, .eight, .sixteen].map Weight.code = [0, 4, 8, 16] ∧
  let range : GlobalSettings → GlItem → Int × Int := fun g i =>
    match i with
    | .budget => (5000, 80000)
    | .uSag => (6000, 15000)
    | .uCut => (5600, min 14999 (g.uSag - 1 : Nat))
    | .uStep => (100, 5000)
    | .stepMs => (1, 500)
    | .aStep | .dMax | .vMax => (0, 200)
    | .kd | .kv => (0, 255)
    | .dRough => (0, 4000)
    | .dDecay => (1, 4000)
    | .wrr => (0, 16)
    | .urgentKinds => (0, 63)
    | .lockAtStart => (0, 1)
  (∀ (g : GlobalSettings) (i : GlItem), glItemRange g i = range g i) ∧
  ∀ (s : State) (tag src item chan b0 b1 b2 b3 : Byte) (i : GlItem),
    let v := readI32 b0 b1 b2 b3
    let w : Int :=
      match i with
      | .wrr => if v ≤ 0 then 0 else if v ≤ 7 then 4 else if v ≤ 15 then 8 else 16
      | .urgentKinds => if v < 0 then 0 else v % 64
      | .lockAtStart => if v = 0 then 0 else 1
      | j => max (range s.globals j).1 (min (range s.globals j).2 v)
    let status := if w = v then Status.done else Status.clamped
    let content := if w = v then [] else [i32 w]
    s.power = .running → s.privileged src → itemOfCode item.toNat = some (.global i) → s.store.locked = false →
    (i = .budget → ∀ c : Channel, (s.slice c).arb.held = false) →
    ∃ t, exec (.set [tag, src, item, chan, b0, b1, b2, b3]) s = .next t ∧
      glItemValue t.globals i = w ∧
      (∀ j : GlItem, j ≠ i → ¬(i = .uSag ∧ j = .uCut) → glItemValue t.globals j = glItemValue s.globals j) ∧
      (i = .uSag →
        t.globals.uCut = if w ≤ (s.globals.uCut : Int) then max 5600 (w.toNat - 1) else s.globals.uCut) ∧
      (i ≠ .budget → t = ({ s.counted with globals := t.globals } : State).answer tag .set status content) ∧
      (i = .budget →
        let lowered := fun (k : ChannelSettings) => { k with iStart := min k.iStart w.toNat, iRun := min k.iRun w.toNat }
        t.globals = { s.globals with budget := w.toNat } ∧ (∀ c : Channel, (t.slice c).cfg = lowered (s.slice c).cfg) ∧
        t = { s with globals := t.globals, ch := t.ch, queue := t.queue, store := t.store, link := t.link } ∧
        t.link = (s.counted.answer tag .set status content).link ∧
        (s.supply.sag = true ∨ s.queue = [] → t =
          ({ s.counted with
            globals := t.globals
            ch := s.ch.map fun x => { x with cfg := lowered x.cfg } } : State).answer tag .set status content))

/-- R154 tests 1 to 3 and R156: what a SET of a privileged source is refused for, in order, each with nothing changed but the body
link; and LOCK, which sets the flag whatever it was. -/
def Obligations.SetRefusedAndLock : Prop :=
  ∀ (s : State) (tag src item chan b0 b1 b2 b3 : Byte), s.power = .running → s.privileged src →
    let v := readI32 b0 b1 b2 b3
    let request := exec (.set [tag, src, item, chan, b0, b1, b2, b3]) s
    let refused := fun (st : Status) => s.counted.answer tag .set st []
    (itemOfCode item.toNat = none → request = .next (refused .malformed)) ∧
    (∀ i, itemOfCode item.toNat = some (.perChannel i) → 8 ≤ chan.toNat → request = .next (refused .malformed)) ∧
    (itemOfCode item.toNat = some (.perChannel .kind) → (v < 0 ∨ 3 < v) → request = .next (refused .malformed)) ∧
    (∀ i, itemOfCode item.toNat = some (.perChannel i) → chan.toNat < 8 → (i = .kind → 0 ≤ v ∧ v ≤ 3) →
      s.store.locked = true → request = .next (refused .locked)) ∧
    (∀ i, itemOfCode item.toNat = some (.global i) → s.store.locked = true → request = .next (refused .locked)) ∧
    (∀ c : Channel, itemOfCode item.toNat = some (.perChannel .travel) → chan = channelByte c →
      s.store.locked = false → (s.slice c).ctl.motion ≠ .idle → (s.slice c).ctl.motion ≠ .faulted →
      request = .next (refused .busy)) ∧
    (∀ c : Channel, itemOfCode item.toNat = some (.global .budget) → s.store.locked = false →
      (s.slice c).arb.held = true → request = .next (refused .busy)) ∧
    exec (.lock [tag, src]) s =
      .next (({ s.counted with store := { s.store with locked := true } } : State).answer tag .lock .done [])

/-- R138: a PERMIT of a privileged source, whatever the lock flag holds. -/
def Obligations.PermitWritesRow : Prop :=
  ∀ (s : State) (tag src who f : Byte) (q : Source) (row : Octet Perm), s.power = .running → s.privileged src →
    let permit := fun (who : Byte) (row : List Byte) (f : Byte) => exec (.permit ([tag, src, who] ++ row ++ [f])) s
    let bytes := row.toList.map fun p => byteOf (Perm.code p)
    let perms := s.perms.set (Source.index q) row
    let another := ∃ x : Source, x ≠ q ∧ s.priv.get (Source.index x) = true
    (sourceOfByte who = some q →
      permit who bytes 1 =
        .next (({ s.counted with perms := perms, priv := s.priv.set (Source.index q) true } : State).answer tag .permit
          .done []) ∧
      ((another ∨ s.priv.get (Source.index q) = false) → permit who bytes 0 =
        .next (({ s.counted with perms := perms, priv := s.priv.set (Source.index q) false } : State).answer tag .permit
          .done [])) ∧
      (s.priv.get (Source.index q) = true → ¬another → permit who bytes 0 =
        .next (({ s.counted with perms := perms } : State).answer tag .permit .clamped [[1, 0, 0, 0]]))) ∧
    (∀ bs : List Byte, bs.length = 8 → (8 ≤ who.toNat ∨ 2 ≤ f.toNat ∨ ∃ b ∈ bs, 3 ≤ b.toNat) →
      permit who bs f = .next (s.counted.answer tag .permit .malformed []))

/-- R103, R107, R116: a FORGET of a privileged source in any motion state. The last run result where no record is open is left
aside here (log entry 14). -/
def Obligations.ForgetEmptiesProfile : Prop :=
  ∀ (s : State) (c : Channel) (tag src chan : Byte), s.power = .running → s.privileged src →
    (∃ t, exec (.forget [tag, src, channelByte c]) s = .next t ∧
      t = (s.counted.modPrf c fun _ => (t.slice c).prf).answer tag .forget .done [] ∧
      (∀ z : Fin 64, (t.slice c).prf.zones[z] = { state := .empty, baseline := 0, spread := 0, stamp := 0, tz := 20 }) ∧
      (t.slice c).prf.record = none ∧ (t.slice c).prf.runCounter = (s.slice c).prf.runCounter ∧
      (∀ r, (s.slice c).prf.record = some r → (t.slice c).prf.lastRun =
        { outcome := .discarded, failed := none, startPos := r.startPos, cleanMask := 0, updated := 0, madeStale := 0,
          madeEmpty := 0, runCounter := (s.slice c).prf.runCounter })) ∧
    (8 ≤ chan.toNat → exec (.forget [tag, src, chan]) s = .next (s.counted.answer tag .forget .malformed []))

/-- R9, R41: a CLEAR_FAULT of a privileged source. The FAULT notice goes before the REFERENCED one, and the answer after both. The model's
choices: both notices carry the state after the whole event (log entry 15), and the end reason is cleared on the way to IDLE (log entry 18). -/
def Obligations.ClearFaultReturnsToService : Prop :=
  ∀ (s : State) (c : Channel) (tag src chan : Byte), s.power = .running → s.privileged src →
    let sl := s.slice c
    let request := exec (.clearFault [tag, src, channelByte c]) s
    (sl.ctl.motion ≠ .faulted → request = .next (s.counted.answer tag .clearFault .done [])) ∧
    (sl.ctl.motion = .faulted → ∃ t u, request = .next t ∧
      u = (s.counted.modTrk c fun k => { k with referenced := false, history := [] }).modCtl c (fun k =>
        { k with motion := .idle, overcurrent := 0, endReason := none }) ∧
      t =
        (let first := u.queueReport .change (u.changeOf c .fault none none none)
         let both := if sl.trk.referenced then first.queueReport .change (u.changeOf c .referenced none none none) else first
         both.answer tag .clearFault .done [])) ∧
    (8 ≤ chan.toNat → exec (.clearFault [tag, src, chan]) s = .next (s.counted.answer tag .clearFault .malformed []))

/-! ### The settings store -/

/-- R157 to R160, R162: when a STORE, a PARK and a RESTART of a privileged source are accepted, what they begin, and that each is
otherwise answered BUSY with nothing changed. That a section in WRITE stands with a failed check is the model's form (log entry 3), as
are the 16 bits of a stored position (log entry 23), and that a PARK taken ahead of a MARK_CLEAR that waits leaves none to follow (log entry
12). The values of every block at the restart are `StartValues`. -/
def Obligations.StoreParkRestartAcceptance : Prop :=
  ∀ (s : State) (tag src : Byte), s.power = .running → s.privileged src →
    let parked := ∀ c : Channel, (s.slice c).ctl.motion = .idle ∧ (s.slice c).trk.referenced = true
    (s.store.op = none → ∃ t : State, exec (.store [tag, src]) s = .next (t.answer tag .store .done []) ∧
      t = { s.counted with store := t.store } ∧
      t.store.op = some { snapshot := .store s.settingsNow, phase := .write, left := 120 } ∧
      t.store.image.settings = { s.store.image.settings with checkGood := false } ∧
      t.store.image.park = s.store.image.park ∧ t.store.markStanding = s.store.markStanding ∧
      t.store.clearDue = s.store.clearDue ∧ t.store.locked = s.store.locked) ∧
    (s.store.op ≠ none →
      exec (.store [tag, src]) s = .next (s.counted.answer tag .store .busy []) ∧
      exec (.park [tag, src]) s = .next (s.counted.answer tag .park .busy [])) ∧
    (s.store.op = none → parked → ∃ (t : State) (x : ParkContent), exec (.park [tag, src]) s = .next (t.answer tag .park .done []) ∧
      t = { s.counted with store := t.store } ∧ x.mark = true ∧
      (∀ c : Channel, x.positions.get c = BitVec.ofInt 16 (s.slice c).trk.position) ∧
      t.store.op = some { snapshot := .park x, phase := .write, left := 9 } ∧
      t.store.image.park = { s.store.image.park with checkGood := false } ∧
      t.store.image.settings = s.store.image.settings ∧ t.store.markStanding = true ∧ t.store.clearDue = false ∧
      t.store.locked = s.store.locked) ∧
    (¬parked → exec (.park [tag, src]) s = .next (s.counted.answer tag .park .busy [])) ∧
    ((s.queue ≠ [] ∨ ∃ c : Channel, (s.slice c).arb.held = true) →
      exec (.restart [tag, src]) s = .next (s.counted.answer tag .restart .busy [])) ∧
    (s.queue = [] → (∀ c : Channel, (s.slice c).arb.held = false) →
      ∃ t : State, exec (.restart [tag, src]) s = .next (t.answer tag .restart .done []) ∧
        t.store = { s.store with locked := s.globals.lockAtStart, op := none } ∧ t.settingsNow = s.settingsNow ∧
        t.link.urgent = [] ∧ t.link.routine = [] ∧ t.link.sending = s.link.sending)

/-- R157, R158, R160: the ends of the two phases of an operation, and the beginning of a MARK_CLEAR. A WRITE whose every byte is taken
leaves the snapshot under a good check. One that leaves bytes otherwise has them counted at the end of VERIFY, and its check passes or
fails as the CRC-16 over the section's bytes has it, whatever the content is: with one wrong byte it always fails. That WRITE_PHASE_END
carries the difference, where the two bytes of the check stand, and that the positions a MARK_CLEAR writes are those of before a PARK aborted
in WRITE, are the model's choices (log entry 3), as is MARK_CLEAR as a step of its
own (log entry 12). -/
def Obligations.StoreOperationPhases : Prop :=
  (∀ (s : State) (x : Snapshot) (left : Nat) (diff : List Byte), s.power = .running →
    s.store.op = some { snapshot := x, phase := .write, left := left } →
    let wrong := fun (n : Nat) => ((diff.take n).filter fun b => decide (b ≠ 0)).length
    let judged := fun (size : Nat) (good : Bool) =>
      (wrong size = 0 → good = true) ∧ (wrong size = 1 → good = false) ∧
      ∀ content : List Byte, content.length + 2 = size →
        good = passesCheck size (List.zipWith (· ^^^ ·) (content ++ checkBytes (crc16 content))
          ((diff ++ List.replicate size 0).take size))
    ∃ t, exec (.writePhaseEnd diff) s = .next t ∧ t = { s with store := t.store, freeCount := t.freeCount } ∧
      t.store = { s.store with op := t.store.op, image := t.store.image } ∧
      (∀ y, x = .store y →
        let z := t.store.image.settings
        t.store.op = some { snapshot := x, phase := .verify, left := 8 } ∧ t.store.image.park = s.store.image.park ∧
        z.wrong = wrong 4096 ∧ judged 4096 z.checkGood ∧ (wrong 4094 = 0 → z.content = y)) ∧
      (∀ y, x = .park y ∨ x = .markClear y →
        let z := t.store.image.park
        t.store.op = some { snapshot := x, phase := .verify, left := 1 } ∧
        t.store.image.settings = s.store.image.settings ∧
        z.wrong = wrong 20 ∧ judged 20 z.checkGood ∧ (wrong 18 = 0 → z.content = y))) ∧
  (∀ (s : State) (x : Snapshot) (left : Nat), s.power = .running →
    s.store.op = some { snapshot := x, phase := .verify, left := left } →
    let named : OpKind × Nat :=
      match x with
      | .store _ => (.store, s.store.image.settings.wrong)
      | .park _ => (.park, s.store.image.park.wrong)
      | .markClear _ => (.markClear, s.store.image.park.wrong)
    exec .verifyPhaseEnd s =
      .next (({ s with store := { s.store with op := none } } : State).queueReport .stored (.stored named.1 named.2))) ∧
  (∀ s : State, s.power = .running → s.store.clearDue = true → s.store.op = none →
    exec .markClear s = .next { s with
      store :=
        { s.store with
          clearDue := false, markStanding := false
          op := some
            { snapshot := .markClear { positions := s.store.image.park.content.positions, mark := false },
              phase := .write, left := 4 }
          image := { s.store.image with park := { s.store.image.park with checkGood := false } } } }) ∧
  (∀ s : State, s.power = .running → (s.store.clearDue = false ∨ s.store.op ≠ none) → exec .markClear s = .next s)

/-- R157, R159, R161: a STORE whose WRITE has ended well survives a loss of power, clamped as it is loaded. One cut off in WRITE
leaves the fixed defaults. What a load clamps, `clampContent` (R57, R62, R114, R115, R119, R155): every item is brought to the nearest
bound of its range (`SetTakesChannelItem` and `SetTakesGlobalItem` write the ranges out) as the items loaded make it, every zone into the
loaded bounds and S_MAX, and content already in range stays as it is. The model's choices in it: KIND loads no charges and an EMPTY zone
takes the EMPTY figures (log entry 20), and a B_FLOOR above B_CEIL is the one to give way (log entry 29). What the fixed defaults,
`defaultContent`, are: the defaults of the tables of Chapters 3 to 6 and of R155 in code order, and those of R103 and R133. -/
def Obligations.StoredSettingsSurvive : Prop :=
  (∀ (s : State) (tag src : Byte), s.power = .running → s.privileged src → s.store.op = none →
    (∃ t, runAll [.store [tag, src], .writePhaseEnd [], .powerOn, .coldStart] s = .next t ∧
      t.settingsNow = clampContent s.settingsNow) ∧
    (∃ t, runAll [.store [tag, src], .powerOn, .coldStart] s = .next t ∧ t.settingsNow = defaultContent)) ∧
  (∀ x : SettingsContent,
    let y := clampContent x
    let emptyFigures : ZoneRecord := { state := .empty, baseline := 0, spread := 0, stamp := 0, tz := 20 }
    let nearest := fun (r : Int × Int) (v : Int) => max r.1 (min r.2 v)
    let itemsInRange := fun (z : SettingsContent) =>
      (∀ i : GlItem, let r := glItemRange z.globals i
        r.1 ≤ glItemValue z.globals i ∧ glItemValue z.globals i ≤ r.2) ∧
      ∀ (c : Channel) (i : ChItem), let k := z.channels.get c
        let r := chItemRange z.globals k i
        r.1 ≤ chItemValue k i ∧ chItemValue k i ≤ r.2
    itemsInRange y ∧
    (∀ i : GlItem, glItemValue y.globals i = nearest (glItemRange y.globals i) (glItemValue x.globals i)) ∧
    (∀ c : Channel,
      let k := y.channels.get c
      (∀ i : ChItem, i ≠ .bCeil → chItemValue k i = nearest (chItemRange y.globals k i) (chItemValue (x.channels.get c) i)) ∧
      k.bCeil = min 32767 (x.channels.get c).bCeil ∧
      ∀ z : Fin 64,
        let loaded := (x.zones.get c)[z]
        (y.zones.get c)[z] =
          if loaded.state = .empty then emptyFigures
          else { loaded with
            baseline := max k.bFloor (min k.bCeil loaded.baseline), spread := min k.sMax loaded.spread }) ∧
    y.perms = x.perms ∧ y.priv = x.priv ∧ y.runCounters = x.runCounters ∧
    (itemsInRange x →
      (∀ (c : Channel) (z : Fin 64), let k := x.channels.get c
        let loaded := (x.zones.get c)[z]
        if loaded.state = .empty then loaded = emptyFigures
        else k.bFloor ≤ loaded.baseline ∧ loaded.baseline ≤ k.bCeil ∧ loaded.spread ≤ k.sMax) →
      y = x)) ∧
  let d := defaultContent
  glItems.map (glItemValue d.globals) = [30000, 9000, 7000, 600, 40, 25, 8, 40, 400, 10, 4, 30, 8, 19, 0] ∧
  ∀ c : Channel,
    let byKind := fun (kind travel start run : Int) =>
      chItems.map (chItemValue (d.channels.get c)) =
        [kind, travel, 60, 200, 20, 40, 2, 220, 100, 600, 60, 180, 40, 20, 30, 24, 8, 0, 3, 24, 30, 200, 600, 800, 40, 3,
          30, 150, start, run, 90000, 15000, 4, 140, 255, 160, 120, 8, 2, 12, 8, 60, 40, 15]
    (c.val ≤ 3 → byKind 0 3200 9000 4000) ∧ (c.val = 4 ∨ c.val = 5 → byKind 1 800 5000 2000) ∧
    (c.val = 6 → byKind 2 4000 12000 5000) ∧ (c.val = 7 → byKind 3 2400 3000 1500) ∧
    (∀ z : Fin 64, (d.zones.get c)[z] = { state := .empty, baseline := 0, spread := 0, stamp := 0, tz := 20 }) ∧
    d.runCounters.get c = 0 ∧
    (let entry := fun (x : Source) => (d.perms.get (Source.index x)).get c
     let allowed := fun (b : Bool) => if b then Perm.allow else .deny
     (∀ x ∈ [Source.driver, .remote, .body, .service], entry x = .allow) ∧ entry .codriver = allowed (c.val = 1) ∧
     entry .rearLeft = allowed (c.val = 2 ∨ c.val = 4) ∧ entry .rearRight = allowed (c.val = 3 ∨ c.val = 5) ∧
     entry .roofConsole = allowed (c.val = 6 ∨ c.val = 7)) ∧
    ∀ x : Source, d.priv.get (Source.index x) = true ↔ x = .body ∨ x = .service

/-- R8, R9, R26, R35, R42, R44, R49, R50, R98, R160: what an edge does beyond the tracker. While the park mark stands, a valid count of any channel
leaves clear-due set, and a MARK_CLEAR can begin once no operation is in flight. At every edge that raises no Hall fault
(`HallPairMovesTracker`), valid or invalid and in either direction: a running stall timer of a driven channel restarts at STALL_MS with
first edge seen set, the silence timer of a braking one restarts at 10 ms while its brake-limit timer goes on, and in DRIVE the duty target
is settled for the position and referenced flag after the edge. The position of a driven, referenced channel is compared with the move in
force. A desync is recorded and taken by motion state. The notices of the edge (R9, R35, R44) are stated where its sample is not tapped: HELD
where an open end ends held mode, and at a desync its incident, a MOVE_END where it ends a wait, and REFERENCED. The model's choices: clear-due is left set with no operation in flight too (log
entry 12), a position end at an edge comes before a verdict of the same edge (log entry 13), the incident of a desync stands before its
notice (log entry 15), and a lowered target lowers the staged duty at the edge whatever the profile (log entry 16). -/
def Obligations.ValidCountWithdrawsMark : Prop :=
  (∀ (s : State) (c : Channel) (a b : Bool), s.power = .running → s.store.markStanding = true →
    let h := (s.slice c).trk.hall
    ((a = h.b ∧ b = !h.a) ∨ (a = !h.b ∧ b = h.a)) →
    ∃ t, exec (.hallTransition c a b) s = .next t ∧ t.store = { s.store with clearDue := true }) ∧
  (∀ (s : State) (c : Channel) (a b : Bool), s.power = .running →
    let old := s.slice c
    let k := old.ctl
    let h := old.trk.hall
    let opened := a = h.b ∧ b = !h.a
    let closed := a = !h.b ∧ b = h.a
    let pos := if opened then old.trk.position + 1 else if closed then old.trk.position - 1 else old.trk.position
    let travel : Int := old.cfg.travel
    let desync := if opened ∨ closed then pos < -16 ∨ travel + 16 < pos else 8 ≤ old.trk.uncertainty
    let ends := fun (r : Reason) =>
      (k.motion = .opening ∧ travel ≤ pos ∧ r = .openEnd) ∨
      (∃ m, k.move = some m ∧ m.mode = .target ∧ r = .targetReached ∧
        ((k.motion = .opening ∧ (m.target : Int) ≤ pos ∧ pos < travel) ∨ (k.motion = .closing ∧ pos ≤ (m.target : Int)))) ∨
      (k.motion = .reversing ∧ (k.reversalTarget : Int) ≤ pos ∧ r = .reversalDone)
    let braked := fun (r : Reason) =>
      ({ k with
         motion := .braking, afterBrake := .goIdle, endReason := some r, move := none, holdTimer := none, recovery := 0 } :
        Controller)
    let stops := fun (new : Slice) =>
      new.drv.mode = .brake ∧ new.drv.applied = 0 ∧ new.drv.silence = some 10 ∧ new.drv.brakeLimit = some 150 ∧
      new.est.phase = none ∧ new.est.blankTimer = none ∧ new.vdu.stallTimer = none ∧ new.vdu.window = [] ∧
      new.prf.record = none ∧ new.prf.zones = old.prf.zones
    let kept := (old.trk.history ++ [decide (opened ∨ closed)]).drop (if old.trk.history.length < 16 then 0 else 1)
    let near := old.trk.referenced = true ∧ ¬desync ∧ pos ≤ (old.cfg.sealBand : Int) + old.cfg.slowBand
    let clamped := fun (n : Nat) => max 64 (min 255 n)
    let target :=
      match old.drv.profile with
      | .inch => clamped old.cfg.dInch
      | .normal =>
        if old.drv.dir = some .closing ∧ near then clamped (min old.cfg.dSeal old.cfg.dRun) else clamped old.cfg.dRun
    let untapped := old.est.phase = none ∨ s.tap.channel ≠ some c
    ¬(a = h.a ∧ b = h.b) → (k.motion = .faulted ∨ invalidCount kept ≤ 3) → ∃ t, exec (.hallTransition c a b) s = .next t ∧
      let new := t.slice c
      (isDriven k.motion → new.ctl.motion = k.motion →
        new.vdu.stallTimer = old.vdu.stallTimer.map (fun _ => old.cfg.stallMs) ∧
        new.vdu.firstEdge = (old.vdu.firstEdge || old.vdu.stallTimer.isSome)) ∧
      (isDriven k.motion → old.drv.mode = .drive →
        new.drv.target = target ∧ new.drv.staged = min old.drv.staged target ∧
        (new.ctl.motion = k.motion →
          new.drv = { old.drv with target := target, staged := min old.drv.staged target })) ∧
      (k.motion = .braking → old.drv.mode = .brake → new.drv = { old.drv with silence := some 10 }) ∧
      ((k.motion = .idle ∨ k.motion = .braking ∨ k.motion = .faulted) → new.ctl = k ∧
        (old.vdu.stallTimer = none → new.vdu.stallTimer = none) ∧ (old.drv.mode = .off → new.drv = old.drv)) ∧
      (∀ r, ends r → old.trk.referenced = true → ¬desync → old.drv.mode = .drive →
        new.ctl = (if r = .openEnd then { braked r with streak := 0, held := false, heldTimer := none } else braked r) ∧
        stops new ∧
        (untapped → t.link =
          if r = .openEnd ∧ k.held = true then
            (s.queueReport .change (t.changeOf c .held none none none)).link
          else s.link)) ∧
      ((k.motion = .opening ∨ k.motion = .reversing) → (old.trk.referenced = false ∨ (¬desync ∧ ∀ r, ¬ends r)) →
        new.ctl = k) ∧
      (old.trk.referenced = true → desync →
        new.trk.referenced = false ∧
        (∃ x : Incident, x.tag = s.log.nextTag ∧ x.time = s.log.clock ∧ x.channel = c ∧ x.kind = .desync ∧
          x.motion = k.motion ∧ x.position = pos ∧
          t.log =
            { s.log with
              nextTag := s.log.nextTag + 1
              ring := (s.log.ring ++ [x]).drop (if s.log.ring.length < 32 then 0 else 1) } ∧
          (untapped → (k.motion = .waiting → old.est.phase = none) →
            let change := fun (u : State) (n : ChangeKind) (r : Option Reason) =>
              u.queueReport .change (t.changeOf c n r none none)
            let u := s.queueReport .incident (.incident x)
            let cancelled := k.motion = .waiting ∧ ∃ m, k.move = some m ∧ m.mode ≠ .manual
            (cancelled → t.link = (change (change u .moveEnd (some .desync)) .referenced none).link) ∧
            (¬cancelled → t.link = (change u .referenced none).link))) ∧
        (isDriven k.motion → old.drv.mode = .drive → new.ctl = braked .desync ∧ stops new) ∧
        (∀ m, k.motion = .waiting → k.move = some m → old.est.phase = none →
          (m.mode = .manual → new.ctl = k ∧ t.queue = s.queue) ∧
          (m.mode ≠ .manual →
            new.ctl =
              { k with
                motion := .idle, move := none, slot := none, holdTimer := none, endReason := new.ctl.endReason } ∧
            t.isQueued c = false))))

/-! ### The line -/

/-- R141 to R144, R153: the bytes of a frame with a right check, received from HUNT, come to the frame as its own command. With any
other check byte they come to one DROP_CHECK. On the lines, a byte takes ten bit times, least significant bit first between a start and a
stop bit, LTX rests at high, and ten levels on LRX come to a byte, or to a line error where the stop bit is low. That the start bit is low
is DEDUCED (log entry 30), and what a parser in HUNT holds is the model's choice (log entry 18). R148, R149, R150, R152, section 9.6: the bytes of every report, as frames of its code. The fields of a notice
stand in their order, and the fields of an answer's content in segments of at most 42 bytes, each with as many whole fields as fit (the
fields of the answers are stated where the requests are, and those of an ASK and their coding in `AskAnswersItsTopic`). -/
def Obligations.FrameBytesAreTheFrame : Prop :=
  (∀ (s : State) (kind x : Byte) (p : List Byte), s.power = .running → p.length ≤ 47 →
    s.link.parser = { state := .hunt, length := 0, bytes := [], crc := 0xFF, gapTimer := none } →
    let body := byteOf (p.length + 1) :: kind :: p
    runAll ((frameOf kind p).map .receiveByte) s = exec (.unknownKind kind p) s ∧
    (x ≠ crc8 body → runAll ((0x5A :: body ++ [x]).map .receiveByte) s =
      .next (s.modCounters fun k => { k with dropCheck := k.dropCheck + 1 }))) ∧
  (∀ (l : Link) (n : Nat), l.sending = none → l.ltx n = true) ∧
  (∀ (l : Link) (r : Report) (n : Nat) (b : Byte), l.sending = some r → (reportBytes r)[n]? = some b →
    l.ltx (10 * n) = false ∧ (∀ i, i < 8 → l.ltx (10 * n + 1 + i) = b.getLsbD i) ∧ l.ltx (10 * n + 9) = true) ∧
  (∀ (l : Link) (r : Report) (n : Nat), l.sending = some r → sendMicros r ≤ n → l.ltx n = true) ∧
  (∀ b : Byte,
    let levels := fun (stop : Bool) =>
      [false, b.getLsbD 0, b.getLsbD 1, b.getLsbD 2, b.getLsbD 3, b.getLsbD 4, b.getLsbD 5, b.getLsbD 6, b.getLsbD 7, stop]
    receivedAs (levels true) = some (.receiveByte b) ∧ receivedAs (levels false) = some .lineError) ∧
  (let shifted := fun (x : Byte) => if x.msb then (x <<< 1) ^^^ 0x07 else x <<< 1
   crc8 [] = 0xFF ∧ ∀ (bs : List Byte) (b : Byte),
    crc8 (bs ++ [b]) = (List.range 8).foldl (fun x _ => shifted x) (crc8 bs ^^^ b)) ∧
  (∀ (kind : Byte) (p : List Byte), let body := BitVec.ofNat 8 (p.length + 1) :: kind :: p
    frameOf kind p = 0x5A :: body ++ [crc8 body]) ∧
  (∀ r : Report, sendMicros r = 10 * (reportBytes r).length) ∧
  [Phase.closing, .opening, .reversing].map Phase.code = [0, 1, 2] ∧
  [ChangeKind.moveEnd, .held, .referenced, .fault].map ChangeKind.code = [0, 1, 2, 3] ∧
  [Reason.targetReached, .closedEnd, .openEnd, .holdLapsed, .halted, .reversalDone, .obstructed, .thermalLimit, .supplyCut,
    .desync].map Reason.code = [0, 1, 2, 3, 4, 5, 6, 7, 8, 9] ∧
  [FaultKind.hallFault, .overcurrent].map FaultKind.code = [4, 5] ∧
  [Status.done, .started, .queued, .merged, .pending, .denied, .referred, .refusedHeld, .refusedUnref, .refusedThermal,
    .refusedReversing, .refusedFault, .locked, .busy, .malformed, .clamped].map Status.code =
    [0, 1, 2, 3, 4, 5, 6, 7, 8, 9, 10, 11, 12, 13, 14, 15] ∧
  [OpKind.store, .park, .markClear].map OpKind.code = [0, 1, 2] ∧
  let sent := fun (r : Report) (code : Byte) (payloads : List (List Byte)) =>
    reportBytes r = (payloads.map (frameOf code)).flatten
  (∀ (tag kind : Byte) (status : Status) (content : List (List Byte)), (∀ f ∈ content, f.length ≤ 42) →
    ∃ segs : List (List (List Byte)), segs ≠ [] ∧ segs.flatten = content ∧ (∀ g ∈ segs, g.flatten.length ≤ 42) ∧
      (∀ (n : Nat) (g : List (List Byte)), segs[n]? = some g → n + 1 < segs.length →
        ∃ f rest, segs[n + 1]? = some (f :: rest) ∧ 42 < g.flatten.length + f.length) ∧
      sent (.answer tag kind status content) 0x81 (segs.mapIdx fun n g =>
        [tag, kind, BitVec.ofNat 8 (Status.code status), BitVec.ofNat 8 n, BitVec.ofNat 8 segs.length] ++ g.flatten)) ∧
  (∀ r : Incident, sent (.incident r) 0x82
    [u16 r.tag.toNat ++ u32 r.time.toNat ++ u8 r.channel.val ++ u8 (IncidentKind.code r.kind) ++ u8 (Motion.code r.motion) ++
      u8 (IncidentMode.code r.mode) ++ codeOrNone (r.source.map Source.code) ++ i16 r.position ++ u8 r.zone.val ++
      u8 r.duty ++ u16 r.supply ++ i8 r.temp ++ u8 r.streak ++ flag r.held ++ u16 r.runCounter.toNat ++
      (match r.pinch with
       | some g => i16 g.firstHit ++ u16 g.reversalTarget
       | none => []) ++
      (match r.band with
       | some g => i16 g.residue ++ u16 g.tl ++ u8 (AggMode.code g.mode) ++ u16 g.hitMask.toNat ++ u8 g.hitIndex ++
           u8 g.validLength ++ u8 g.aDist ++ u8 g.aSupply ++ u8 g.aSpeed
       | none => [])]) ∧
  (∀ n : Change, sent (.change n) 0x83
    [u8 (ChangeKind.code n.kind) ++ u8 n.channel.val ++ u8 (Motion.code n.motion) ++ i16 n.position ++ flag n.referenced ++
      flag n.held ++ u8 n.streak ++ codeOrNone (n.reason.map Reason.code) ++ codeOrNone (n.fault.map FaultKind.code) ++
      codeOrNone (n.outcome.map Status.code)]) ∧
  (∀ (tag kind source mask : Byte) (content : List Byte),
    sent (.refer tag kind source mask content) 0x84 [tag :: kind :: source :: mask :: content]) ∧
  (∀ (x : Sample) (skipped : Nat), sent (.tapSample x skipped) 0x85
    [u8 x.channel.val ++ u8 (Phase.code x.phase) ++ i16 x.position ++ u8 x.zone.val ++ u16 x.p ++ u16 x.i ++ u16 x.u ++
      u8 x.dty ++ u16 x.e ++ u16 x.f ++ u16 x.bEff ++ u16 x.allowance ++ i16 x.residue ++ u16 x.tl ++
      u8 (SampleClass.code x.cls) ++ u8 ((if x.valid then 1 else 0) + (if x.disturbed then 2 else 0)) ++ u16 skipped]) ∧
  ∀ (op : OpKind) (wrong : Nat), sent (.stored op wrong) 0x86
    [u8 (OpKind.code op) ++ u8 (if wrong = 0 then 0 else 1) ++ u16 wrong]

/-- R143: two sequences that differ in one byte have different checks. -/
def Obligations.CheckTellsOneByte : Prop :=
  ∀ (before after : List Byte) (x y : Byte), x ≠ y → crc8 (before ++ x :: after) ≠ crc8 (before ++ y :: after)

/-- R141, R142, R143: the table of the receive parser below a completed frame, a line error and the gap expiry. Only the parser and one
counter change. The model's choices: GAP_TIMER_EXPIRY acts whenever the gap timer runs, and not while it is stopped (log entry 10), and what
the length, bytes and check hold in HUNT (log entry 18). -/
def Obligations.ParserTable : Prop :=
  ∀ (s : State) (b : Byte), s.power = .running →
    let p := s.link.parser
    let hunt : Parser := { state := .hunt, length := 0, bytes := [], crc := 0xFF, gapTimer := none }
    let comesTo := fun (q : Parser) (f : LinkCounters → LinkCounters) =>
      (.next { s with link := { s.link with parser := q, counters := f s.link.counters } } :
        Host.Outcome State Fault Refusal)
    (p.state = .hunt → b ≠ 0x5A → exec (.receiveByte b) s = .next s) ∧
    (p.state = .hunt → exec (.receiveByte 0x5A) s =
      comesTo { state := .length, length := 0, bytes := [], crc := 0xFF, gapTimer := some 1 } id) ∧
    (p.state = .length → exec (.receiveByte 0) s = comesTo hunt fun k => { k with dropRunt := k.dropRunt + 1 }) ∧
    (p.state = .length → 49 ≤ b.toNat →
      exec (.receiveByte b) s = comesTo hunt fun k => { k with dropOversize := k.dropOversize + 1 }) ∧
    (p.state = .length → 1 ≤ b.toNat → b.toNat ≤ 48 → exec (.receiveByte b) s =
      comesTo { state := .body, length := b.toNat, bytes := [], crc := crc8Step p.crc b, gapTimer := some 1 } id) ∧
    (p.state = .body → exec (.receiveByte b) s =
      comesTo
        { state := if p.bytes.length + 1 < p.length then .body else .check, length := p.length, bytes := p.bytes ++ [b],
          crc := crc8Step p.crc b, gapTimer := some 1 } id) ∧
    (p.state = .check → b ≠ p.crc →
      exec (.receiveByte b) s = comesTo hunt fun k => { k with dropCheck := k.dropCheck + 1 }) ∧
    (p.state ≠ .hunt → exec .lineError s = comesTo hunt fun k => { k with dropLine := k.dropLine + 1 }) ∧
    (p.state = .hunt → exec .lineError s = .next s) ∧
    (p.gapTimer ≠ none → exec .gapTimerExpiry s = comesTo hunt fun k => { k with dropGap := k.dropGap + 1 }) ∧
    (p.gapTimer = none → exec .gapTimerExpiry s = .next s)

/-- R151, R152: the class of a report and of an answer says whether it is urgent; a report of a class joins its queue or is lost and counted;
and the choice of an idle transmitter, at once after a report is queued and when a report is finished. That REPORT_SENT of an idle
transmitter changes nothing is the model's choice (log entry 10). -/
def Obligations.ReportQueueing : Prop :=
  let urgentUnder := fun (kinds : BitVec 6) (cls : ReportClass) =>
    match cls with
    | .incident => true
    | .tapSample => false
    | .answerMove => decide (kinds.toNat % 2 = 1)
    | .answerHalt => decide (kinds.toNat / 2 % 2 = 1)
    | .answerOther => decide (kinds.toNat / 4 % 2 = 1)
    | .change => decide (kinds.toNat / 8 % 2 = 1)
    | .refer => decide (kinds.toNat / 16 % 2 = 1)
    | .stored => decide (kinds.toNat / 32 % 2 = 1)
  (∀ (s : State) (tag : Byte) (k : RequestKind) (st : Status) (content : List (List Byte)),
    s.answer tag k st content =
      s.queueReport (if k = .move then .answerMove else if k = .halt then .answerHalt else .answerOther)
        (.answer tag (byteOf k.code) st content)) ∧
  (∀ (s : State) (cls : ReportClass) (r : Report) (x : Report), s.link.sending = some x →
    let l := s.link
    let urgent := urgentUnder s.globals.urgentKinds cls
    s.queueReport cls r = { s with
      link :=
        if urgent then
          if l.urgent.length < 16 then { l with urgent := l.urgent ++ [r] }
          else { l with counters := { l.counters with urgentLost := l.counters.urgentLost + 1 } }
        else if l.routine.length < 24 then { l with routine := l.routine ++ [r] }
        else { l with counters := { l.counters with routineLost := l.counters.routineLost + 1 } } }) ∧
  (∀ (s : State) (cls : ReportClass) (r : Report), s.link.sending = none → s.link.urgent = [] → s.link.routine = [] →
    s.queueReport cls r = { s with
      link :=
        { s.link with
          sending := some r
          urgentRun := if urgentUnder s.globals.urgentKinds cls then min 255 (s.link.urgentRun + 1) else 0 } }) ∧
  (∀ (s : State) (x u r : Report) (us rs : List Report), s.power = .running → s.link.sending = some x →
    let l := s.link
    let below := s.globals.wrr = .strict ∨ l.urgentRun < Weight.code s.globals.wrr
    let sendUrgent : State :=
      { s with link := { l with urgent := us, sending := some u, urgentRun := min 255 (l.urgentRun + 1) } }
    let sendRoutine : State := { s with link := { l with routine := rs, sending := some r, urgentRun := 0 } }
    (l.urgent = u :: us → l.routine = [] → exec .reportSent s = .next sendUrgent) ∧
    (l.urgent = u :: us → l.routine = r :: rs → below → exec .reportSent s = .next sendUrgent) ∧
    (l.urgent = u :: us → l.routine = r :: rs → ¬below → exec .reportSent s = .next sendRoutine) ∧
    (l.urgent = [] → l.routine = r :: rs → exec .reportSent s = .next sendRoutine) ∧
    (l.urgent = [] → l.routine = [] → exec .reportSent s = .next { s with link := { l with sending := none } })) ∧
  (∀ s : State, s.power = .running → s.link.sending = none → exec .reportSent s = .next s)

/-! ### Supply, acceleration and vehicle data -/

/-- R59 to R62: what every sample from 5 500 mV on makes of the supply monitor, and what it leaves alone. A sample that does not clear
a set sag flag and is not the twentieth below U_CUT changes nothing else. -/
def Obligations.SupplySampleMonitor : Prop :=
  ∀ (s : State) (mV : Nat), s.power = .running → 5500 ≤ mV →
    let v := min 20000 mV
    let old := s.supply
    ∃ t, exec (.supplySample mV) s = .next t ∧
      t.supply.value = v ∧ t.supply.sag = decide (v < s.globals.uSag) ∧
      t.supply.history = (old.history ++ [v]).drop (if old.history.length < 8 then 0 else 1) ∧
      t.supply.cutCount = (if v < s.globals.uCut then min 20 (old.cutCount + 1) else 0) ∧
      t.supply.stepWindow =
        (match old.history with
          | [] => old.stepWindow
          | oldest :: _ =>
            if old.history.length = 8 ∧ s.globals.uStep ≤ ((v : Int) - oldest).natAbs then some s.globals.stepMs
            else old.stepWindow) ∧
      t = { s with supply := t.supply, ch := t.ch, queue := t.queue, link := t.link, log := t.log, store := t.store } ∧
      (¬(old.sag = true ∧ s.globals.uSag ≤ v) → ¬(old.cutCount = 19 ∧ v < s.globals.uCut) →
        t = { s with supply := t.supply }) ∧
      (old.sag = true → s.globals.uSag ≤ v → s.globals.uCut ≤ v → ∃ u : State,
        u = { s with supply := { old with value := v, sag := false, stepWindow := t.supply.stepWindow } } ∧
        t = { u.scan with supply := t.supply })

/-- R34, R43, R44, R55, R62: the twentieth consecutive sample below U_CUT, as its own command and as a supply sample: every driven or
braking channel is turned OFF and IDLE with its grant released, in ascending number, with one SUPPLY_CUT incident of the channel as found,
a MOVE_END notice with reason SUPPLY_CUT, and a HELD notice if held mode began. Every other channel and the start queue stay. The model's:
SUPPLY_CUT acts as that sample only (log entry 11), the incident stands before its channel's notices, which carry the state after the event
(log entry 15), and the reports of one channel before those of the next (log entry 26). -/
def Obligations.SupplyCutTurnsOff : Prop :=
  ∀ (s : State) (mV : Nat), s.power = .running → 5500 ≤ mV → mV < s.globals.uCut → mV < s.globals.uSag → mV ≤ 20000 →
    let meets := fun c : Channel => (s.slice c).ctl.motion ∈ [Motion.closing, .opening, .reversing, .braking]
    (s.supply.cutCount ≠ 19 → exec (.supplyCut mV) s = .next s) ∧
    (s.supply.cutCount = 19 → exec (.supplyCut mV) s = exec (.supplySample mV) s ∧
      ∃ (t : State) (xs : List Incident), exec (.supplyCut mV) s = .next t ∧
        t = { s with supply := t.supply, ch := t.ch, log := t.log, link := t.link } ∧ t.supply.cutCount = 20 ∧
        xs.map Incident.channel = (List.finRange 8).filter (fun c => decide (meets c)) ∧
        xs.map Incident.tag = (List.range xs.length).map (fun i => s.log.nextTag + BitVec.ofNat 16 i) ∧
        (∀ x : Incident, x ∈ xs → x.kind = .supplyCut ∧ x.time = s.log.clock ∧
          x.asFound (s.slice x.channel) mV s.vehicle.temp ∧ x.pinch = none ∧ x.band = none) ∧
        t.log =
          xs.foldl (fun l x => { l with
            nextTag := l.nextTag + 1
            ring := (l.ring ++ [x]).drop (if l.ring.length < 32 then 0 else 1) }) s.log ∧
        t.link =
          (xs.foldl (fun (u : State) (x : Incident) =>
            let old := s.slice x.channel
            let change := fun (v : State) (k : ChangeKind) (r : Option Reason) =>
              v.queueReport .change (t.changeOf x.channel k r none none)
            let v := change (u.queueReport .incident (.incident x)) .moveEnd (some .supplyCut)
            if old.ctl.beginsHeld old.cfg then change v .held none else v) s).link ∧
        ∀ c : Channel,
          let old := s.slice c
          let new := t.slice c
          let closes := old.ctl.reversalOpen = true ∧ (old.ctl.held = true ∨ old.ctl.streak = old.cfg.nHeld)
          (¬meets c → new = old) ∧
          (meets c →
            new.ctl =
              { old.ctl with
                motion := .idle, move := none, slot := none, holdTimer := none, reversalOpen := false
                endReason := new.ctl.endReason, held := old.ctl.held || old.ctl.beginsHeld old.cfg
                heldTimer := if closes then some (old.cfg.heldS * 1000) else old.ctl.heldTimer } ∧
            new.drv.mode = .off ∧ (old.drv.mode ≠ .off → new.drv.dir = none ∧ new.drv.applied = 0) ∧ new.arb.held = false ∧
            new.est.phase = none ∧ new.est.blankTimer = none ∧ new.vdu.stallTimer = none ∧ new.prf.record = none ∧
            (∀ r, old.prf.record = some r → new.prf.lastRun.outcome = .abandoned) ∧
            new.trk = old.trk ∧ new.cfg = old.cfg ∧ new.prf.zones = old.prf.zones))


/-- R60, R82: the timer of the step window and the speed timer run out. That a running timer's row acts whatever time is left, and a stopped
one's changes nothing, is the model's choice (log entry 10). -/
def Obligations.SharedTimersRunOut : Prop :=
  ∀ s : State, s.power = .running →
    exec .stepWindowClose s = .next { s with supply := { s.supply with stepWindow := none } } ∧
    (s.vehicle.speedTimer ≠ none →
      exec .speedTimerExpiry s = .next { s with vehicle := { s.vehicle with speed := none, speedTimer := none } }) ∧
    (s.vehicle.speedTimer = none → exec .speedTimerExpiry s = .next s)

/-- R78, R79, R80: a reading of the acceleration, and the row of the fiftieth reading at a limit. A sensor that has failed is at its
fiftieth reading, which is a premise here. That SENSOR_FAILED acts only as the fiftieth reading at a limit is the model's choice (log
entry 11). -/
def Obligations.AccelerationReading : Prop :=
  ∀ (s : State) (mg : Int), s.power = .running → (s.motion.failed = true → s.motion.limitCount = 50) →
    let a := max (-8000) (min 8000 mg)
    let old := s.motion
    let atLimit := a = -8000 ∨ a = 8000
    let fails := atLimit ∧ 49 ≤ old.limitCount
    ∃ t, exec (.bodyMotionSample mg) s = .next t ∧ t = { s with motion := t.motion } ∧
      (fails → t.motion = { old with limitCount := 50, failed := true, dlev := 0 }) ∧
      (¬fails → t.motion.failed = false ∧ t.motion.limitCount = (if atLimit then old.limitCount + 1 else 0) ∧
        (old.rest = none → t.motion.rest = some a ∧ t.motion.dlev = old.dlev) ∧
        (∀ r, old.rest = some r →
          t.motion.dlev = min 4000 (max (a - r).natAbs (old.dlev - s.globals.dDecay)) ∧
          t.motion.rest = some (r + Int.tdiv (a - r) 256))) ∧
      (old.limitCount = 49 → atLimit → exec (.sensorFailed mg) s = exec (.bodyMotionSample mg) s) ∧
      (¬(old.limitCount = 49 ∧ atLimit) → exec (.sensorFailed mg) s = .next s)

/-! ### The once-per-ms work of a channel -/

/-- R34, R39, R40, R44: a check of the current sense below the threshold, above it short of the fifth time, and the fifth in a row, which
records an OVERCURRENT incident of the channel as found and faults it, with a HELD notice if held mode began and a FAULT notice. With no
other channel waiting, nothing else is touched but the log and the link. The model's: the incident stands before the notices, which carry the
state after the event (log entry 15), the row OVERCURRENT_FAULT acts on the fifth only (log entry 11), and the reading at the pin saturates
(log entry 24). -/
def Obligations.OvercurrentChecks : Prop :=
  ∀ (s : State) (c : Channel) (mA : Nat), s.power = .running →
    let u : State := s.setCurrentPin c mA
    let old := s.slice c
    let count := fun (n : Nat) => u.modCtl c fun k => { k with overcurrent := n }
    (old.drv.mode = .off → exec (.overcurrentCheck c mA) s = .next (count 0)) ∧
    (mA < 38000 → exec (.overcurrentCheck c mA) s = .next (count 0)) ∧
    (old.drv.mode ≠ .off → 38000 ≤ mA → old.ctl.overcurrent < 4 →
      exec (.overcurrentCheck c mA) s = .next (count (old.ctl.overcurrent + 1))) ∧
    (¬(old.drv.mode ≠ .off ∧ 38000 ≤ mA ∧ old.ctl.overcurrent = 4) → exec (.overcurrentFault c mA) s = .next u) ∧
    (old.drv.mode ≠ .off → 38000 ≤ mA → old.ctl.overcurrent = 4 → s.queue = [] →
      exec (.overcurrentFault c mA) s = exec (.overcurrentCheck c mA) s ∧
      ∃ t, exec (.overcurrentFault c mA) s = .next t ∧ s.othersKept t c ∧
        t = { s with pins := u.pins, ch := t.ch, link := t.link, log := t.log } ∧
        (∃ x : Incident, s.log.joinedBy t.log x ∧ x.asFound old s.supply.value s.vehicle.temp ∧ x.channel = c ∧
          x.kind = .overcurrent ∧ x.pinch = none ∧ x.band = none ∧
          let change := fun (v : State) (k : ChangeKind) (f : Option FaultKind) =>
            v.queueReport .change (t.changeOf c k none f none)
          let s1 := s.queueReport .incident (.incident x)
          let s2 := if old.ctl.beginsHeld old.cfg then change s1 .held none else s1
          t.link = (change s2 .fault (some .overcurrent)).link) ∧
        let new := t.slice c
        let closes := old.ctl.reversalOpen = true ∧ (old.ctl.held = true ∨ old.ctl.streak = old.cfg.nHeld)
        new.ctl =
          { old.ctl with
            motion := .faulted, move := none, slot := none, holdTimer := none, overcurrent := 5, reversalOpen := false,
            held := old.ctl.held || (old.ctl.reversalOpen && decide (old.ctl.streak = old.cfg.nHeld)),
            heldTimer := if closes then some (old.cfg.heldS * 1000) else old.ctl.heldTimer } ∧
        new.drv =
          { old.drv with mode := .off, dir := none, applied := 0, silence := none, brakeLimit := none } ∧
        new.arb.held = false ∧ (old.arb.held = true → new.arb.charge = 0) ∧ new.trk = old.trk ∧ new.cfg = old.cfg ∧
        new.est.phase = none ∧ new.vdu.stallTimer = none ∧ new.prf.record = none)

/-- R37, R38: a ms of run credit by motion state, the ms in which the recovery count reaches RECOVER, and an opening at a credit
of 0. The model's choices: the derived rows act only when their condition holds (log entry 11), and what a recovery count above RECOVER does
(log entry 21). -/
def Obligations.RunCreditByState : Prop :=
  ∀ (s : State) (c : Channel), s.power = .running →
    let k := (s.slice c).ctl
    let cfg := (s.slice c).cfg
    let tick := exec (.runCreditTick c) s
    let credit := fun (n : Nat) => s.modCtl c fun x => { x with credit := n }
    let resting := k.motion = .idle ∨ k.motion = .waiting ∨ k.motion = .faulted
    ((k.motion = .closing ∨ k.motion = .reversing) → tick = .next (credit (k.credit - 1))) ∧
    (k.motion = .opening → 2 ≤ k.credit → tick = .next (credit (k.credit - 1))) ∧
    (k.motion = .opening → k.credit ≤ 1 → tick = exec (.thermalLimit c) (credit 0)) ∧
    (resting → k.recovery + 1 < cfg.recover →
      tick = .next (s.modCtl c fun x => { x with recovery := x.recovery + 1 }) ∧ exec (.creditRecovery c) s = .next s) ∧
    (resting → cfg.recover ≤ k.recovery + 1 →
      tick = .next (s.modCtl c fun x => { x with recovery := 0, credit := min cfg.creditMax (x.credit + 1) }) ∧
      exec (.creditRecovery c) s = tick) ∧
    (k.motion = .braking → tick = .next s) ∧
    (¬resting → exec (.creditRecovery c) s = .next s) ∧
    (¬(k.motion = .opening ∧ k.credit = 0) → exec (.thermalLimit c) s = .next s) ∧
    (k.motion = .opening → k.credit = 0 → (s.slice c).drv.mode = .drive →
      ∃ t, exec (.thermalLimit c) s = .next t ∧ s.onlyChannels t ∧ s.brakesTo t c .goIdle .thermalLimit)

/-- R46, R47, R48, R49: the levels of the lines DA, DB and PW by mode and direction, a ms of the ramp and a PWM period boundary. Only the
drive unit changes. When a target is settled anew is the model's choice (log entry 16). -/
def Obligations.RampAndPeriodBoundary : Prop :=
  ∀ (s : State) (c : Channel), s.power = .running →
    let d := (s.slice c).drv
    let cfg := (s.slice c).cfg
    let near := (s.slice c).trk.referenced = true ∧ (s.slice c).trk.position ≤ (cfg.sealBand : Int) + cfg.slowBand
    let clamped := fun (n : Nat) => max 64 (min 255 n)
    let target :=
      match d.profile with
      | .inch => clamped cfg.dInch
      | .normal => if d.dir = some .closing ∧ near then clamped (min cfg.dSeal cfg.dRun) else clamped cfg.dRun
    (d.mode ≠ .drive → exec (.dutyRampTick c) s = .next s ∧ exec (.pwmPeriodBoundary c) s = .next s) ∧
    (d.mode = .drive → 64 ≤ d.staged → d.staged ≤ 255 → exec (.dutyRampTick c) s =
      .next (s.modDrv c fun x => { x with
        target := target, staged := if d.staged < target then min target (d.staged + cfg.ramp) else target })) ∧
    (d.mode = .drive → exec (.pwmPeriodBoundary c) s = .next (s.modDrv c fun x => { x with applied := d.staged })) ∧
    (d.mode = .off → bridgeLines d = (false, false) ∧ pwmDuty d = 0) ∧
    (d.mode = .drive → d.dir = some .closing → bridgeLines d = (true, false) ∧ pwmDuty d = d.applied) ∧
    (d.mode = .drive → d.dir = some .opening → bridgeLines d = (false, true) ∧ pwmDuty d = d.applied) ∧
    (d.mode = .brake → bridgeLines d = (true, true) ∧ pwmDuty d = 0)

/-! ### Expiries -/

/-- R25, R35, R36, R44: the hold timer and the held timer run out. That an expiry row acts whenever its timer runs is the model's choice
(log entry 10). -/
def Obligations.HoldAndHeldExpiry : Prop :=
  ∀ (s : State) (c : Channel), s.power = .running →
    let k := (s.slice c).ctl
    let hold := exec (.holdTimerExpiry c) s
    let stopped := s.modCtl c fun x => { x with holdTimer := none }
    (k.holdTimer = none → hold = .next s) ∧
    (k.holdTimer ≠ none → k.motion = .waiting → ∃ u, stopped.waitEnds u c ∧
      hold = .next (u.queueReport .change (u.changeOf c .moveEnd (some .holdLapsed) none none))) ∧
    (k.holdTimer ≠ none → (k.motion = .closing ∨ k.motion = .opening) → (s.slice c).drv.mode = .drive →
      ∃ t, hold = .next t ∧ s.onlyChannels t ∧ s.brakesTo t c .goIdle .holdLapsed) ∧
    (k.holdTimer ≠ none → k.motion = .braking → k.afterBrake = .requeue →
      hold = .next (stopped.modCtl c fun x =>
        { x with slot := none, afterBrake := .goIdle, endReason := some .holdLapsed })) ∧
    (k.holdTimer ≠ none → k.motion = .braking → k.afterBrake ≠ .requeue → hold = .next stopped) ∧
    (k.holdTimer ≠ none → (k.motion = .idle ∨ k.motion = .reversing ∨ k.motion = .faulted) → hold = .next stopped) ∧
    (k.heldTimer = none → exec (.heldTimerExpiry c) s = .next s) ∧
    (k.heldTimer ≠ none →
      let u := s.modCtl c fun x => { x with held := false, heldTimer := none, streak := (s.slice c).cfg.nHeld - 1 }
      exec (.heldTimerExpiry c) s =
        .next (if k.held then u.queueReport .change (u.changeOf c .held none none none) else u))

/-- R28, R33, R34, R44, R46, R50, R53, R56: brake quiet, reached at the expiry of either timer, by after-brake action, where no waiting
channel starts at it (an empty start queue, or a set sag flag) and where the one that waits does. That an expiry row acts whenever its
timer runs is the model's choice (log entry 10), as are the end reason cleared on the way to IDLE (log entry 18) and the two notices of one
event both carrying the state after it (log entry 15). The duties are held in 64..255 whatever the settings (log entry 16). -/
def Obligations.BrakeQuietByAction : Prop :=
  ∀ (s : State) (c : Channel), s.power = .running →
    let old := s.slice c
    let cfg := old.cfg
    let quiet := exec (.silenceTimerExpiry c) s
    let counts := old.ctl.reversalOpen = true ∧ (old.ctl.held = true ∨ old.ctl.streak = cfg.nHeld)
    let flips := old.ctl.reversalOpen && decide (old.ctl.streak = cfg.nHeld) && !old.ctl.held
    let rested : Controller :=
      { old.ctl with
        motion := .idle, move := none, slot := none, holdTimer := none, endReason := none, reversalOpen := false,
        held := old.ctl.held || flips,
        heldTimer := if counts then some (cfg.heldS * 1000) else old.ctl.heldTimer }
    let off : Drive := { old.drv with mode := .off, dir := none, applied := 0, silence := none, brakeLimit := none }
    let released : Grant := { old.arb with held := false, charge := 0, inBlanking := false }
    let noticeHeld := fun (u : State) => if flips then u.queueReport .change (u.changeOf c .held none none none) else u
    let endsIdle := fun (r : Option Reason) (st : Option Status) (ctr : Counters) =>
      ∃ u : State, s.onlyChannels u ∧ s.othersKept u c ∧
        u.slice c = { old with ctl := rested, drv := off, arb := released, ctr := ctr } ∧
        quiet = .next (noticeHeld (u.queueReport .change (u.changeOf c .moveEnd r none st)))
    let goesIdle := fun (r : Option Reason) =>
      (old.ctl.afterBrake = .goIdle ∧ r = old.ctl.endReason) ∨
      (old.ctl.afterBrake = .reverse ∧ (old.ctl.reversalTarget : Int) ≤ old.trk.position ∧ r = some .reversalDone)
    (old.drv.silence = none → quiet = .next s) ∧
    (old.drv.brakeLimit = none → exec (.brakeLimitTimerExpiry c) s = .next s) ∧
    (old.drv.silence ≠ none → old.drv.brakeLimit ≠ none → exec (.brakeLimitTimerExpiry c) s = quiet) ∧
    (old.drv.silence ≠ none → old.ctl.motion = .braking → old.drv.mode = .brake → old.arb.held = true →
      (s.queue = [] ∨ s.supply.sag = true) →
      (∀ r, goesIdle r → endsIdle r none old.ctr) ∧
      (old.ctl.afterBrake = .reverse → old.trk.position < (old.ctl.reversalTarget : Int) →
        ∃ t : State, quiet = .next t ∧ s.onlyChannels t ∧ s.othersKept t c ∧
          let new := t.slice c
          let target := max 64 (min 255 cfg.dRun)
          let first := max 64 (min 255 (min cfg.dStart target))
          new.ctl = { old.ctl with motion := .reversing, holdTimer := none, recovery := 0 } ∧
          new.drv =
            { mode := .drive, dir := some .opening, profile := .normal, target := target, staged := first,
              applied := first, silence := none, brakeLimit := none } ∧
          new.arb = { old.arb with charge := old.arb.runCharge, inBlanking := false } ∧
          new.est =
            { phase := some .reversing, sampleNo := 0, filter := none, blankTimer := none, readings := [],
              newest := none } ∧
          new.vdu =
            { window := [], decided := false, stallTimer := some cfg.startStallMs, firstEdge := false,
              newest := none } ∧
          new.prf = old.prf ∧ new.trk = old.trk ∧ new.ctr = old.ctr ∧ new.cfg = cfg) ∧
      (∀ m, old.ctl.afterBrake = .requeue → old.ctl.slot = some m → s.isQueued c = false →
        let settled := settle cfg.travel old.trk.position m.mode m.dir m.target m.source
        let refused := refusal cfg old.trk.referenced rested settled
        let fits := s.supply.sag = false ∧ s.chargeSum + cfg.iStart ≤ s.globals.budget + old.arb.charge
        (∀ st, refused = some st →
          endsIdle old.ctl.endReason (some st)
            (if st = .refusedThermal then { old.ctr with c := old.ctr.c.count .thermalRefusals 1 } else old.ctr)) ∧
        (∀ mode, refused = none → settled = .null mode → endsIdle old.ctl.endReason (some .done) old.ctr) ∧
        (∀ m', refused = none → settled = .move m' → ¬fits →
          ∃ u : State, quiet = .next (noticeHeld u) ∧ s.othersKept u c ∧
            u.queue = s.queue ++ [{ channel := c, passes := 0 }] ∧ u = { s with ch := u.ch, queue := u.queue } ∧
            u.slice c =
              { old with
                ctl := { rested with motion := .waiting, move := some m', holdTimer := old.ctl.holdTimer },
                drv := off, arb := released }) ∧
        (∀ m', refused = none → settled = .move m' → fits →
          ∃ u : State, quiet = .next (noticeHeld u) ∧ s.othersKept u c ∧ u.queue = [] ∧
            u = { s with ch := u.ch, queue := u.queue, store := u.store } ∧
            (u.slice c).ctl =
              { rested with
                motion := drivenIn m'.dir, move := some m', holdTimer := old.ctl.holdTimer, recovery := 0 } ∧
            (u.slice c).drv.mode = .drive ∧ (u.slice c).drv.dir = some m'.dir ∧ (u.slice c).arb.held = true ∧
            (u.slice c).est.phase = some (phaseIn m'.dir)))) ∧
    (∀ (d : Channel) (n : Nat) (m : Move) (r : Option Reason), old.drv.silence ≠ none → old.ctl.motion = .braking →
      old.arb.held = true → goesIdle r → s.supply.sag = false → s.queue = [{ channel := d, passes := n }] → d ≠ c →
      (s.slice d).ctl.motion = .waiting → (s.slice d).ctl.move = some m → (s.slice d).drv.mode = .off →
      s.chargeSum + (s.slice d).cfg.iStart ≤ s.globals.budget + old.arb.charge →
      ∃ t, quiet = .next t ∧ t.queue = [] ∧ (∀ x : Channel, x ≠ c → x ≠ d → t.slice x = s.slice x) ∧
        (t.slice c).ctl = rested ∧
        (t.slice d).ctl = { (s.slice d).ctl with motion := drivenIn m.dir, recovery := 0 } ∧
        (t.slice d).arb.held = true ∧ (t.slice d).drv.mode = .drive ∧ (t.slice d).drv.dir = some m.dir)

/-- R9, R10, R11, R12, R29, R30, R35, R44, R98, R99, R121, R122: a stall expiry by motion state, referenced flag and position. The pinch and the
closed end of a run have statements of their own (`PinchBrakesAndReverses`, `ClosedEndLearns`). At the closed end the channel's profile and
counters may change besides. A HELD notice follows where held mode ends, and then a REFERENCED notice of a referencing close, each with the
state after the whole event (log entry 15). That the row acts whatever time is left, and not on a stopped timer, is the model's choice (log entry 10). -/
def Obligations.StallExpiryByState : Prop :=
  ∀ (s : State) (c : Channel), s.power = .running →
    let old := s.slice c
    let expiry := exec (.stallExpiry c) s
    let stopped := s.modVdu c fun v => { v with stallTimer := none }
    let changed := fun (u t : State) (flag : Bool) (n : ChangeKind) =>
      if flag then u.queueReport .change (t.changeOf c n none none none) else u
    let atEnd := fun (t : State) (reason : Reason) (x : Tracker) =>
      (t.slice c).trk = x ∧
      (t.slice c).ctl =
        { old.ctl with
          motion := .braking, afterBrake := .goIdle, endReason := some reason, move := none, holdTimer := none,
          recovery := 0, streak := 0, held := false, heldTimer := none } ∧
      (t.slice c).drv = { old.drv with mode := .brake, applied := 0, silence := some 10, brakeLimit := some 150 } ∧
      (t.slice c).arb = old.arb ∧ (t.slice c).est.phase = none ∧ (t.slice c).prf.record = none ∧ s.othersKept t c ∧
      t = { s with ch := t.ch, link := t.link }
    (old.vdu.stallTimer = none → expiry = .next s) ∧
    (old.vdu.stallTimer ≠ none → ¬isDriven old.ctl.motion → expiry = .next stopped) ∧
    (old.vdu.stallTimer ≠ none → old.drv.mode = .drive →
      (old.ctl.motion = .closing → (old.trk.referenced = false ∨ old.trk.position ≤ (old.cfg.sealBand : Int)) →
        ∃ t, expiry = .next t ∧
          atEnd t .closedEnd { old.trk with position := 0, uncertainty := 0, referenced := true } ∧
          t.link = (changed (changed s t old.ctl.held .held) t (!old.trk.referenced) .referenced).link) ∧
      (old.ctl.motion = .opening → (old.cfg.travel : Int) - old.cfg.openTol ≤ old.trk.position →
        ∃ t, expiry = .next t ∧ atEnd t .openEnd { old.trk with position := old.cfg.travel } ∧
          t.link = (changed s t old.ctl.held .held).link ∧ (t.slice c).prf.zones = old.prf.zones) ∧
      (((old.ctl.motion = .opening ∧ old.trk.position < (old.cfg.travel : Int) - old.cfg.openTol) ∨
          old.ctl.motion = .reversing) →
        ∃ (t : State) (r : Incident), expiry = .next t ∧ s.brakesTo t c .goIdle .obstructed ∧
          t = { s with ch := t.ch, link := t.link, log := t.log } ∧
          t.link = (s.queueReport .incident (.incident r)).link ∧
          t.log =
            { s.log with
              nextTag := s.log.nextTag + 1
              ring := (s.log.ring ++ [r]).drop (if s.log.ring.length < 32 then 0 else 1) } ∧
          r.tag = s.log.nextTag ∧ r.time = s.log.clock ∧ r.channel = c ∧ r.kind = .openObstruct ∧
          r.asFound old s.supply.value s.vehicle.temp ∧ r.pinch = none ∧ r.band = none ∧
          (old.ctl.reversalOpen = true → r.mode = .reversal ∧ r.source = none) ∧
          (old.ctl.reversalOpen = false → old.ctl.motion = .reversing → r.mode = .none ∧ r.source = none) ∧
          (old.ctl.reversalOpen = false → old.ctl.motion = .opening →
            (old.ctl.move = none → r.mode = .none ∧ r.source = none) ∧
            ∀ m, old.ctl.move = some m →
              r.mode = (match m.mode with | .manual => .manual | .express => .express | .target => .target) ∧
              r.source = some m.source)))

/-- R53, R54, R55, R68: the blanking timer runs out. The charge falls to the recorded run charge, and the one channel that waits
starts if its start charge now fits. That the row acts whatever time is left, and not on a stopped timer, is the model's choice (log
entry 10). -/
def Obligations.BlankingExpiryScans : Prop :=
  ∀ (s : State) (c : Channel), s.power = .running →
    let old := s.slice c
    let expiry := exec (.blankingTimerExpiry c) s
    let stopped := s.modEst c fun e => { e with blankTimer := none }
    let fallen := stopped.modArb c fun a => { a with charge := a.runCharge, inBlanking := false }
    (old.est.blankTimer = none → expiry = .next s) ∧
    (old.est.blankTimer ≠ none → old.arb.held = false → expiry = .next stopped) ∧
    (old.est.blankTimer ≠ none → old.arb.held = true → (s.queue = [] ∨ s.supply.sag = true) → expiry = .next fallen) ∧
    (∀ (d : Channel) (n : Nat) (m : Move), old.est.blankTimer ≠ none → old.arb.held = true → s.supply.sag = false →
      s.queue = [{ channel := d, passes := n }] → d ≠ c → (s.slice d).ctl.motion = .waiting →
      (s.slice d).ctl.move = some m → (s.slice d).drv.mode = .off → (s.slice d).cfg.blank ≠ 0 →
      (fallen.chargeSum + (s.slice d).cfg.iStart ≤ s.globals.budget →
        ∃ t, expiry = .next t ∧ t.queue = [] ∧ (∀ x : Channel, x ≠ d → t.slice x = fallen.slice x) ∧
          (t.slice d).ctl = { (s.slice d).ctl with motion := drivenIn m.dir, recovery := 0 } ∧
          (t.slice d).arb =
            { held := true, startCharge := (s.slice d).cfg.iStart, runCharge := (s.slice d).cfg.iRun,
              inBlanking := true, charge := (s.slice d).cfg.iStart } ∧
          (t.slice d).drv.mode = .drive ∧ (t.slice d).drv.dir = some m.dir ∧
          (t.slice d).est.phase = some (phaseIn m.dir)) ∧
      (s.globals.budget < fallen.chargeSum + (s.slice d).cfg.iStart → expiry = .next fallen))

/-- R52, R55: one examination of the start queue against a charge sum. Entries that do not fit below 3 passes gain one each when an entry
behind them is granted and nothing when none is, and an entry that does not fit at 3 passes keeps every entry behind it as it was. -/
def Obligations.PassesAndBlocking : Prop :=
  ∀ (charge : Channel → Nat) (budget sum : Nat) (ahead rest : List QueueEntry) (e : QueueEntry),
    ((∀ x ∈ ahead, budget < sum + charge x.channel ∧ x.passes < 3) →
      scanQueue charge budget sum ahead = (ahead, []) ∧
      (sum + charge e.channel ≤ budget → scanQueue charge budget sum (ahead ++ [e]) =
        (ahead.map fun x => { x with passes := x.passes + 1 }, [e.channel]))) ∧
    (let before := scanQueue charge budget sum ahead
     3 ≤ e.passes → budget < sum + (before.2.map charge).sum + charge e.channel →
      scanQueue charge budget sum (ahead ++ e :: rest) = (before.1 ++ e :: rest, before.2))

/-! ### Samples, verdicts and reversals -/

/-- R67, R69 to R77: the figures of the sample that a count in the direction of a running phase forms, whether or not the edge then
ends the move or is a pinch; `State.completesSample` spells them out. A referenced channel stays in its range, so that the count is no
desync. Where the phase goes on after the edge, besides: what the completed sample puts into the window (R91), the run record (R106), the
counters (R126) and the tap (R131), and the end of start blanking at the BLANK-th sample (R68). The disturbed mark of a failed sensor
under D_ROUGH 0 (log entry 27) is left open. -/
def Obligations.SampleFigures : Prop :=
  ∀ (s : State) (c : Channel) (ph : Phase) (a b : Bool), s.power = .running →
    let old := s.slice c
    let cfg := old.cfg
    let pos := positionAfter ph old.trk.position
    countsIn ph old.trk.hall a b → old.est.phase = some ph → old.ctl.motion ≠ .waiting →
    invalidCount old.trk.history ≤ 3 → old.mayReach pos →
    ∃ (t : State) (x : Sample), exec (.hallTransition c a b) s = .next t ∧ s.completesSample c ph x ∧
      (t.slice c).trk.position = pos ∧ (t.slice c).est.sampleNo = x.number ∧ (t.slice c).est.filter = some x.f ∧
      (t.slice c).est.readings = [] ∧
      (t.slice c).est.newest =
        some { f := x.f, bEff := x.bEff, allowance := x.allowance, residue := x.residue } ∧
      ((t.slice c).est.phase = some ph →
        (t.slice c).vdu.window =
          ({ position := pos, residue := x.residue, tl := x.tl, cls := x.cls, valid := x.valid } :: old.vdu.window).take
            cfg.winLen ∧
        (∀ r, old.prf.record = some r → old.ctl.motion = .closing → ∃ r', (t.slice c).prf.record = some r' ∧
          r' = { r with unreferencedSeen := r.unreferencedSeen || !old.trk.referenced, zones := r'.zones } ∧
          ∀ y : Fin 64, r'.zones[y] =
            if y = x.zone then
              { sum := if x.valid then r.zones[y].sum + x.f else r.zones[y].sum
                count := if x.valid then min 65535 (r.zones[y].count + 1) else r.zones[y].count
                clean := r.zones[y].clean && x.valid && !x.disturbed && s.supply.stepWindow.isNone && decide (x.cls = .low) }
            else r.zones[y]) ∧
        (let counts := fun (k : CounterChoice) =>
          k = .samples ∨ (k = .invalidSamples ∧ x.valid = false) ∨ (k = .watchSamples ∧ x.cls = .watch) ∨
          (k = .tripSamples ∧ x.cls = .trip)
        (t.slice c).ctr =
          { a := old.ctr.a
            b := { old.ctr.b with value := old.ctr.b.value + if counts old.ctr.b.select then 1 else 0 }
            c :=
              { old.ctr.c with
                value := old.ctr.c.value + if old.ctr.c.select = .disturbedSamples ∧ x.disturbed = true then 1 else 0 } }) ∧
        (let tapped := s.tap.channel = some c ∧
          ((ph = .closing ∧ s.tap.phases.closing = true) ∨ (ph = .opening ∧ s.tap.phases.opening = true) ∨
            (ph = .reversing ∧ s.tap.phases.reversing = true))
        (¬tapped → t.tap = s.tap ∧ t.link = s.link) ∧
        (tapped → s.link.routine.length ≤ 20 → t.tap = { s.tap with skipped := 0 } ∧
          t.link = (s.queueReport .tapSample (.tapSample x s.tap.skipped)).link) ∧
        (tapped → 20 < s.link.routine.length → t.link = s.link ∧
          t.tap = { s.tap with skipped := min 65535 (s.tap.skipped + 1) })) ∧
        ((old.est.blankTimer = none ∨ x.number < cfg.blank) →
          (t.slice c).est.blankTimer = old.est.blankTimer ∧ (t.slice c).arb = old.arb) ∧
        (old.est.blankTimer ≠ none → cfg.blank ≤ x.number → (t.slice c).est.blankTimer = none ∧
          (old.arb.held = true → (s.queue = [] ∨ s.supply.sag = true) →
            (t.slice c).arb = { old.arb with charge := old.arb.runCharge, inBlanking := false })))

/-- R86 to R96: the levels, the class, the valid tag and the disturbed mark of a sample, the test of each mode on a window listed
from age 0, and when a sample takes a band verdict, what its record holds and what the verdict unit becomes. RUN and RISE read ages 0 to
K − 1. What the verdict does is `Obligations.PinchBrakesAndReverses`. That D_ROUGH 0 marks a sample of a failed sensor too is the model's
choice (log entry 27). -/
def Obligations.VerdictTests : Prop :=
  (∀ (cfg : ChannelSettings) (dRough : Nat) (held : Bool) (x : Sample),
    let y := completeSample cfg dRough held x
    let spread := if x.record.state = .empty then 0 else x.record.spread
    let margin :=
      (match x.record.state with | .empty => cfg.mEmpty | .stale => cfg.mStale | .learned => 0) +
      (if held then cfg.mHeld else 0)
    y.tl = min cfg.tCeil (cfg.tBase + 2 * spread + margin + x.allowance) ∧ y.wl = y.tl * 5 / 8 ∧
    (x.phase ≠ .closing → y.cls = .none) ∧
    (x.phase = .closing →
      y.cls = if (y.tl : Int) ≤ x.residue then .trip else if (y.wl : Int) ≤ x.residue then .watch else .low) ∧
    (y.valid = true ↔
      cfg.blank < x.number ∧ x.first = false ∧ (cfg.sealBand : Int) < x.position ∧ x.referenced = true) ∧
    (y.disturbed = true ↔ dRough ≤ x.dlev)) ∧
  (∀ (w : List Slot) (k : Nat), 1 ≤ k →
    let hit := fun (x : Slot) => x.valid = true ∧ x.cls = .trip
    ((∃ m, hitSet .run k w = some m) ↔ k ≤ w.length ∧ ∀ j x, j < k → w[j]? = some x → hit x) ∧
    ((∃ m, hitSet .count k w = some m) ↔ k ≤ (w.filter fun x => decide (hit x)).length) ∧
    ((∃ m, hitSet .rise k w = some m) ↔
      k ≤ w.length ∧
      (∀ j x, j < k → w[j]? = some x → x.valid = true ∧ (x.cls = .watch ∨ x.cls = .trip)) ∧
      ∀ j x y, j + 1 < k → w[j]? = some x → w[j + 1]? = some y → y.residue ≤ x.residue) ∧
    (∀ m, hitSet .run k w = some m ∨ hitSet .rise k w = some m → ∀ j, j ∈ m ↔ j < k) ∧
    (∀ m, hitSet .count k w = some m → ∀ j, j ∈ m ↔ ∃ x, w[j]? = some x ∧ hit x)) ∧
  (∀ (v : VerdictUnit) (cfg : ChannelSettings) (x : Sample), 1 ≤ cfg.k →
    let w := ({ position := x.position, residue := x.residue, tl := x.tl, cls := x.cls, valid := x.valid } :: v.window).take
      cfg.winLen
    let r := v.afterSample cfg x
    r.1 =
      { v with
        window := w, decided := v.decided || r.2.isSome
        newest := some { tl := x.tl, wl := x.wl, cls := x.cls, valid := x.valid, disturbed := x.disturbed } } ∧
    (r.2.isSome = true ↔
      x.phase = .closing ∧ v.decided = false ∧ x.valid = true ∧ x.cls = .trip ∧ ∃ m, hitSet cfg.mode cfg.k w = some m) ∧
    ∀ y m, r.2 = some y → hitSet cfg.mode cfg.k w = some m → y.records cfg.mode w m x)

/-- R26, R29 to R32, R92, R97, R120 to R122, R126: a pinch verdict on a CLOSING channel, as a band verdict delivered to its controller, as
the edge whose completed sample takes one, and as a stall above the seal band. In any other state a band verdict is discarded, and an edge
whose sample takes none leaves the close as it was. At an edge that reaches the target of a move no verdict acts (log entry 13), so that
edge is left out. The model's choices: the verdict of an edge acts within that edge's command, with no other edge between them (log entry
13), and the stall row acts whatever time is left (log entry 10). -/
def Obligations.PinchBrakesAndReverses : Prop :=
  ∀ (s : State) (c : Channel), s.power = .running →
    let old := s.slice c
    let cfg := old.cfg
    let target := fun (hit : Int) =>
      if cfg.revDist = 0 then (cfg.travel : Int) else min (cfg.travel : Int) (max (hit + cfg.revDist) cfg.revMinPos)
    let pinched := fun (hit : Int) =>
      { old.ctl with
        motion := .braking, afterBrake := .reverse, endReason := some .reversalDone, move := none, holdTimer := none,
        recovery := 0, streak := min cfg.nHeld (old.ctl.streak + 1), reversalOpen := true, heldTimer := none,
        reversalTarget := (target hit).toNat }
    let ended := fun (t : State) =>
      (t.slice c).cfg = cfg ∧ (t.slice c).est.phase = none ∧ (t.slice c).vdu.stallTimer = none ∧
      (t.slice c).prf.record = none ∧ (t.slice c).prf.zones = old.prf.zones ∧
      (∀ x, old.prf.record = some x → (t.slice c).prf.lastRun.outcome = .abandoned)
    let recorded := fun (t : State) (hit : Int) (kind : IncidentKind) (r : Incident) =>
      s.log.joinedBy t.log r ∧ r.channel = c ∧ r.kind = kind ∧ r.motion = .closing ∧
      (∀ m, old.ctl.move = some m → old.ctl.reversalOpen = false → r.source = some m.source ∧
        r.mode = (match m.mode with | .manual => .manual | .express => .express | .target => .target)) ∧
      r.temp = s.vehicle.temp ∧ r.streak = min cfg.nHeld (old.ctl.streak + 1) ∧ r.held = old.ctl.held ∧
      r.runCounter = old.prf.runCounter ∧
      r.pinch = some { firstHit := hit, reversalTarget := (target hit).toNat }
    let taken := fun (t : State) (hit : Int) (kind : IncidentKind) (r : Incident) =>
      s.othersKept t c ∧ t = { s with ch := t.ch, link := t.link, log := t.log } ∧
      t.link = (s.queueReport .incident (.incident r)).link ∧ (t.slice c).ctl = pinched hit ∧
      (t.slice c).drv = { old.drv with mode := .brake, applied := 0, silence := some 10, brakeLimit := some 150 } ∧
      (t.slice c).arb = old.arb ∧ (t.slice c).trk = old.trk ∧ ended t ∧ recorded t hit kind r
    let banded := fun (v : Verdict) (r : Incident) =>
      r.position = v.position ∧ r.zone = zoneOf cfg.travel v.position ∧ r.duty = v.dty ∧ r.supply = v.u ∧
      r.band =
        some
          { residue := v.residue, tl := v.tl, mode := v.mode, hitMask := v.hitMask, hitIndex := v.hitIndex,
            validLength := v.validLength, aDist := v.aDist, aSupply := v.aSupply, aSpeed := v.aSpeed }
    (∀ v : Verdict, old.ctl.motion ≠ .closing → s.bandPinch c v = s) ∧
    (∀ v : Verdict, old.ctl.motion = .closing → old.drv.mode = .drive →
      ∃ r, taken (s.bandPinch c v) v.firstHit .bandPinch r ∧ banded v r ∧
        ((s.bandPinch c v).slice c).ctr = { old.ctr with a := old.ctr.a.count .bandReversals 1 }) ∧
    (∀ a b : Bool,
      let pos := positionAfter .closing old.trk.position
      countsIn .closing old.trk.hall a b → old.ctl.motion = .closing → old.drv.mode = .drive →
      old.est.phase = some .closing → invalidCount old.trk.history ≤ 3 → old.mayReach pos →
      (∀ m, old.ctl.move = some m → m.mode = .target → old.trk.referenced = true → (m.target : Int) < pos) →
      ∃ t x, exec (.hallTransition c a b) s = .next t ∧ s.completesSample c .closing x ∧
        let verdict := (old.vdu.afterSample cfg x).2
        (verdict = none →
          (t.slice c).ctl = old.ctl ∧ (t.slice c).est.phase = some .closing ∧ t.log = s.log ∧ (t.slice c).ctr.a = old.ctr.a) ∧
        ∀ v, verdict = some v →
          (t.slice c).ctl = pinched v.firstHit ∧ (t.slice c).drv.mode = .brake ∧ (t.slice c).drv.dir = old.drv.dir ∧
          (t.slice c).drv.applied = 0 ∧ (t.slice c).drv.silence = some 10 ∧ (t.slice c).drv.brakeLimit = some 150 ∧
          ended t ∧ (s.isQueued c = false → (t.slice c).arb.held = old.arb.held) ∧ (t.slice c).ctr.a = old.ctr.a.count .bandReversals 1 ∧
          ∃ r, recorded t v.firstHit .bandPinch r ∧ banded v r ∧
            (s.tap.channel ≠ some c → t.link = (s.queueReport .incident (.incident r)).link)) ∧
    (old.ctl.motion = .closing → old.drv.mode = .drive → old.vdu.stallTimer ≠ none → old.trk.referenced = true →
      (cfg.sealBand : Int) < old.trk.position →
      ∃ t r, exec (.stallExpiry c) s = .next t ∧ taken t old.trk.position .stallPinch r ∧
        r.position = old.trk.position ∧ r.zone = zoneOf cfg.travel old.trk.position ∧ r.duty = old.drv.applied ∧
        r.supply = s.supply.value ∧ r.band = none ∧
        (t.slice c).ctr = { old.ctr with a := old.ctr.a.count .stallReversals 1 })

/-! ### Profiles -/

/-- R104, R107 to R113: the profile after a stall that finds the closed end with a run record open: the run counter, every zone, and
the last run result. The model's choices: a zone's mean is the plain quotient, not held at 32 767 after a saturated count (log entry 31),
and the stall row acts whatever time is left (log entry 10). -/
def Obligations.ClosedEndLearns : Prop :=
  ∀ (s : State) (c : Channel) (r : RunRecord), s.power = .running →
    let old := s.slice c
    let cfg := old.cfg
    let temp := s.vehicle.temp
    let failed : Option RunFailure :=
      if r.referencedAtStart = false ∨ r.unreferencedSeen = true then some .notReferenced
      else if r.heldAtStart = true then some .held
      else if r.verdictMark = true then some .verdict
      else if r.startPos < ((cfg.travel / 4 : Nat) : Int) then some .shortStart
      else none
    let rc := if failed = none then old.prf.runCounter + 1 else old.prf.runCounter
    let inMask := fun (z : Fin 64) =>
      r.zones[z].clean = true ∧ 2 ≤ r.zones[z].count ∧ cfg.sealBand < (z.val * cfg.travel + 63) / 64
    let learned := fun (z : Fin 64) =>
      let x := old.prf.zones[z]
      let m := r.zones[z].sum / r.zones[z].count
      let delta : Int := (m : Int) - x.baseline
      let step := max (-(cfg.learnStepMax : Int)) (min cfg.learnStepMax (Int.tdiv delta ((2 ^ cfg.learnShift : Nat) : Int)))
      if failed = none ∧ inMask z then
        (if x.state = .empty then
          { state := .learned, baseline := max cfg.bFloor (min cfg.bCeil m), spread := cfg.sInit, stamp := rc, tz := temp }
        else
          { state := .learned
            baseline := (max (cfg.bFloor : Int) (min cfg.bCeil (x.baseline + step))).toNat
            spread := (max 0 (min (cfg.sMax : Int) (x.spread + Int.tdiv ((delta.natAbs : Int) - x.spread) 4))).toNat
            stamp := rc
            tz := temp } : ZoneRecord)
      else x
    let aged := fun (x : ZoneRecord) =>
      let age := (rc - x.stamp).toNat
      if x.state = .learned ∧ (cfg.ageRuns ≤ age ∨ cfg.ageTemp ≤ (temp - x.tz).natAbs) then { x with state := .stale }
      else if x.state = .stale ∧ 4 * cfg.ageRuns ≤ age then
        { state := .empty, baseline := 0, spread := 0, stamp := 0, tz := 20 }
      else x
    old.ctl.motion = .closing → old.vdu.stallTimer ≠ none → old.prf.record = some r →
    (old.trk.referenced = false ∨ old.trk.position ≤ (cfg.sealBand : Int)) →
    ∃ t, exec (.stallExpiry c) s = .next t ∧ (t.slice c).prf.runCounter = rc ∧ (t.slice c).prf.record = none ∧
      (∀ z : Fin 64, (t.slice c).prf.zones[z] = aged (learned z)) ∧
      let last := (t.slice c).prf.lastRun
      last.outcome = (if failed = none then .qualified else .notQualified) ∧ last.failed = failed ∧
      last.startPos = r.startPos ∧ last.runCounter = rc ∧
      (∀ z : Fin 64, last.cleanMask.getLsbD z.val = true ↔ inMask z) ∧
      last.updated = ((List.finRange 64).filter fun z => decide (failed = none ∧ inMask z)).length ∧
      (let moved := fun (was now : ZoneState) =>
        ((List.finRange 64).filter fun z =>
          decide ((learned z).state = was ∧ (aged (learned z)).state = now)).length
       last.madeStale = moved .learned .stale ∧ last.madeEmpty = moved .stale .empty) ∧
      (t.slice c).ctr = { old.ctr with c := old.ctr.c.count .zoneUpdates last.updated }

/-- R13, R109: the zone of a position of a travel of 64 counts or more, and the lowest non-negative position of a zone. -/
def Obligations.ZonesOfTheTravel : Prop :=
  ∀ (travel : Nat) (p : Int), 64 ≤ travel →
    (p < 0 → zoneOf travel p = 0) ∧ ((travel : Int) ≤ p → zoneOf travel p = 63) ∧
    (0 ≤ p → p < travel → ((zoneOf travel p).val : Int) * travel ≤ p * 64 ∧
      p * 64 < ((zoneOf travel p).val + 1 : Int) * travel) ∧
    ∀ z : Fin 64, zoneOf travel (zoneStart travel z) = z ∧ (0 ≤ p → zoneOf travel p = z → (zoneStart travel z : Int) ≤ p)

/-! ### The laws every step keeps -/

/-- The laws hold of the state after reset, which as a cold start on an image never written is the model's choice (log entry 2). -/
def Obligations.ResetMeetsLaws : Prop :=
  State.reset.MotionLaw ∧ State.reset.BudgetLaw ∧ State.reset.PositionLaw ∧ State.reset.CreditLaw ∧
  State.reset.CapacityLaw ∧ State.reset.log.TagLaw ∧ State.reset.MarkLaw ∧ State.reset.LearningLaw ∧ State.reset.SensorLaw ∧
  State.reset.PrivilegeLaw

/-- R17, R18, R25, R36, R46, R47, R52, R66, R98, R107: every step keeps every channel in its row of R17, its held timer running
exactly while the held flag is set and no reversal is open, and the start queue holding exactly the WAITING channels, once each. -/
def Obligations.StepKeepsMotionLaw : Prop := ∀ s t : State, s.MotionLaw → step s = .next t → t.MotionLaw

/-- R53, R57: every step keeps the charge sum at or below BUDGET, with the charges as the settings bound them. -/
def Obligations.StepKeepsBudgetLaw : Prop := ∀ s t : State, s.BudgetLaw → step s = .next t → t.BudgetLaw

/-- R4, R5, R6, R7, R14: every step keeps a referenced position in its range, the uncertainty and the history in theirs. -/
def Obligations.StepKeepsPositionLaw : Prop := ∀ s t : State, s.PositionLaw → step s = .next t → t.PositionLaw

/-- R35, R37: every step keeps the run credit at most CREDIT_MAX and the streak at most N_HELD. R91, R114, R115: every step keeps every
window at most WIN_LEN long, every baseline of a LEARNED or STALE zone in B_FLOOR..B_CEIL and every spread at most S_MAX. -/
def Obligations.StepKeepsCreditLaw : Prop :=
  ∀ s t : State, step s = .next t → (s.CreditLaw → t.CreditLaw) ∧ (s.LearningLaw → t.LearningLaw)

/-- R59, R62, R80, R120, R151, R152, R160: every step keeps the bounded lists and counts of the shared blocks in their bounds, the tags of
the ring consecutive, and clear-due set only while the mark stands. R80: the sensor is failed exactly while its limit count stands at 50.
R138: at least one source is privileged, but that a write of the SETTINGS section that leaves wrong bytes is left out, for such a section may
pass its check and reads as a free value (log entry 3). -/
def Obligations.StepKeepsSharedLaws : Prop :=
  ∀ s t : State, step s = .next t →
    (s.CapacityLaw → s.log.TagLaw → s.MarkLaw → t.CapacityLaw ∧ t.log.TagLaw ∧ t.MarkLaw) ∧
    (s.SensorLaw → t.SensorLaw) ∧
    (s.PrivilegeLaw → (∀ diff, s.pending.head? = some (.writePhaseEnd diff) → ∀ b ∈ diff, b = 0) → t.PrivilegeLaw)
end

