-- ==== Sys2Proof/Laws/State.lean ====
section
/-! SUPPORT. What each named update of State leaves and changes, field by field: the lemmas that later proofs cite instead of
unfolding a record update. -/

namespace Sys2Proof.Machine

/-! ### A slice passed through a function -/

theorem State.slice_modSlice (s : State) (c d : Channel) (f : Slice → Slice) :
    (s.modSlice c f).slice d = if d = c then f (s.slice c) else s.slice d := Octet.get_modify s.ch c d f

@[simp] theorem State.slice_modSlice_same (s : State) (c : Channel) (f : Slice → Slice) :
    (s.modSlice c f).slice c = f (s.slice c) := Octet.get_modify_same s.ch c f

theorem State.slice_modSlice_ne (s : State) {c d : Channel} (f : Slice → Slice) (h : d ≠ c) :
    (s.modSlice c f).slice d = s.slice d := Octet.get_modify_ne s.ch f h

@[simp] theorem State.modSlice_power (s : State) (c : Channel) (f : Slice → Slice) : (s.modSlice c f).power = s.power := rfl
@[simp] theorem State.modSlice_timeBase (s : State) (c : Channel) (f : Slice → Slice) : (s.modSlice c f).timeBase = s.timeBase := rfl
@[simp] theorem State.modSlice_pins (s : State) (c : Channel) (f : Slice → Slice) : (s.modSlice c f).pins = s.pins := rfl
@[simp] theorem State.modSlice_globals (s : State) (c : Channel) (f : Slice → Slice) : (s.modSlice c f).globals = s.globals := rfl
@[simp] theorem State.modSlice_queue (s : State) (c : Channel) (f : Slice → Slice) : (s.modSlice c f).queue = s.queue := rfl
@[simp] theorem State.modSlice_supply (s : State) (c : Channel) (f : Slice → Slice) : (s.modSlice c f).supply = s.supply := rfl
@[simp] theorem State.modSlice_motion (s : State) (c : Channel) (f : Slice → Slice) : (s.modSlice c f).motion = s.motion := rfl
@[simp] theorem State.modSlice_vehicle (s : State) (c : Channel) (f : Slice → Slice) : (s.modSlice c f).vehicle = s.vehicle := rfl
@[simp] theorem State.modSlice_log (s : State) (c : Channel) (f : Slice → Slice) : (s.modSlice c f).log = s.log := rfl
@[simp] theorem State.modSlice_tap (s : State) (c : Channel) (f : Slice → Slice) : (s.modSlice c f).tap = s.tap := rfl
@[simp] theorem State.modSlice_perms (s : State) (c : Channel) (f : Slice → Slice) : (s.modSlice c f).perms = s.perms := rfl
@[simp] theorem State.modSlice_priv (s : State) (c : Channel) (f : Slice → Slice) : (s.modSlice c f).priv = s.priv := rfl
@[simp] theorem State.modSlice_link (s : State) (c : Channel) (f : Slice → Slice) : (s.modSlice c f).link = s.link := rfl
@[simp] theorem State.modSlice_store (s : State) (c : Channel) (f : Slice → Slice) : (s.modSlice c f).store = s.store := rfl
@[simp] theorem State.modSlice_freeCount (s : State) (c : Channel) (f : Slice → Slice) : (s.modSlice c f).freeCount = s.freeCount := rfl
@[simp] theorem State.modSlice_pending (s : State) (c : Channel) (f : Slice → Slice) : (s.modSlice c f).pending = s.pending := rfl

/-! ### `State.modCfg` -/

@[simp] theorem State.modCfg_power (s : State) (c : Channel) (f : ChannelSettings → ChannelSettings) : (s.modCfg c f).power = s.power := rfl
@[simp] theorem State.modCfg_timeBase (s : State) (c : Channel) (f : ChannelSettings → ChannelSettings) : (s.modCfg c f).timeBase = s.timeBase := rfl
@[simp] theorem State.modCfg_pins (s : State) (c : Channel) (f : ChannelSettings → ChannelSettings) : (s.modCfg c f).pins = s.pins := rfl
@[simp] theorem State.modCfg_globals (s : State) (c : Channel) (f : ChannelSettings → ChannelSettings) : (s.modCfg c f).globals = s.globals := rfl
@[simp] theorem State.modCfg_queue (s : State) (c : Channel) (f : ChannelSettings → ChannelSettings) : (s.modCfg c f).queue = s.queue := rfl
@[simp] theorem State.modCfg_supply (s : State) (c : Channel) (f : ChannelSettings → ChannelSettings) : (s.modCfg c f).supply = s.supply := rfl
@[simp] theorem State.modCfg_motion (s : State) (c : Channel) (f : ChannelSettings → ChannelSettings) : (s.modCfg c f).motion = s.motion := rfl
@[simp] theorem State.modCfg_vehicle (s : State) (c : Channel) (f : ChannelSettings → ChannelSettings) : (s.modCfg c f).vehicle = s.vehicle := rfl
@[simp] theorem State.modCfg_log (s : State) (c : Channel) (f : ChannelSettings → ChannelSettings) : (s.modCfg c f).log = s.log := rfl
@[simp] theorem State.modCfg_tap (s : State) (c : Channel) (f : ChannelSettings → ChannelSettings) : (s.modCfg c f).tap = s.tap := rfl
@[simp] theorem State.modCfg_perms (s : State) (c : Channel) (f : ChannelSettings → ChannelSettings) : (s.modCfg c f).perms = s.perms := rfl
@[simp] theorem State.modCfg_priv (s : State) (c : Channel) (f : ChannelSettings → ChannelSettings) : (s.modCfg c f).priv = s.priv := rfl
@[simp] theorem State.modCfg_link (s : State) (c : Channel) (f : ChannelSettings → ChannelSettings) : (s.modCfg c f).link = s.link := rfl
@[simp] theorem State.modCfg_store (s : State) (c : Channel) (f : ChannelSettings → ChannelSettings) : (s.modCfg c f).store = s.store := rfl
@[simp] theorem State.modCfg_freeCount (s : State) (c : Channel) (f : ChannelSettings → ChannelSettings) : (s.modCfg c f).freeCount = s.freeCount := rfl
@[simp] theorem State.modCfg_pending (s : State) (c : Channel) (f : ChannelSettings → ChannelSettings) : (s.modCfg c f).pending = s.pending := rfl

@[simp] theorem State.slice_modCfg_same (s : State) (c : Channel) (f : ChannelSettings → ChannelSettings) :
    (s.modCfg c f).slice c = { s.slice c with cfg := f (s.slice c).cfg } := State.slice_modSlice_same s c _

theorem State.slice_modCfg_ne (s : State) {c d : Channel} (f : ChannelSettings → ChannelSettings) (h : d ≠ c) :
    (s.modCfg c f).slice d = s.slice d := State.slice_modSlice_ne s _ h

theorem State.slice_modCfg (s : State) (c d : Channel) (f : ChannelSettings → ChannelSettings) :
    (s.modCfg c f).slice d = if d = c then { s.slice c with cfg := f (s.slice c).cfg } else s.slice d :=
  State.slice_modSlice s c d _

@[simp] theorem State.modCfg_trk (s : State) (c d : Channel) (f : ChannelSettings → ChannelSettings) :
    ((s.modCfg c f).slice d).trk = (s.slice d).trk := by rw [State.slice_modCfg]; split <;> simp_all
@[simp] theorem State.modCfg_ctl (s : State) (c d : Channel) (f : ChannelSettings → ChannelSettings) :
    ((s.modCfg c f).slice d).ctl = (s.slice d).ctl := by rw [State.slice_modCfg]; split <;> simp_all
@[simp] theorem State.modCfg_drv (s : State) (c d : Channel) (f : ChannelSettings → ChannelSettings) :
    ((s.modCfg c f).slice d).drv = (s.slice d).drv := by rw [State.slice_modCfg]; split <;> simp_all
@[simp] theorem State.modCfg_arb (s : State) (c d : Channel) (f : ChannelSettings → ChannelSettings) :
    ((s.modCfg c f).slice d).arb = (s.slice d).arb := by rw [State.slice_modCfg]; split <;> simp_all
@[simp] theorem State.modCfg_est (s : State) (c d : Channel) (f : ChannelSettings → ChannelSettings) :
    ((s.modCfg c f).slice d).est = (s.slice d).est := by rw [State.slice_modCfg]; split <;> simp_all
@[simp] theorem State.modCfg_vdu (s : State) (c d : Channel) (f : ChannelSettings → ChannelSettings) :
    ((s.modCfg c f).slice d).vdu = (s.slice d).vdu := by rw [State.slice_modCfg]; split <;> simp_all
@[simp] theorem State.modCfg_prf (s : State) (c d : Channel) (f : ChannelSettings → ChannelSettings) :
    ((s.modCfg c f).slice d).prf = (s.slice d).prf := by rw [State.slice_modCfg]; split <;> simp_all
@[simp] theorem State.modCfg_ctr (s : State) (c d : Channel) (f : ChannelSettings → ChannelSettings) :
    ((s.modCfg c f).slice d).ctr = (s.slice d).ctr := by rw [State.slice_modCfg]; split <;> simp_all

/-! ### `State.modTrk` -/

@[simp] theorem State.modTrk_power (s : State) (c : Channel) (f : Tracker → Tracker) : (s.modTrk c f).power = s.power := rfl
@[simp] theorem State.modTrk_timeBase (s : State) (c : Channel) (f : Tracker → Tracker) : (s.modTrk c f).timeBase = s.timeBase := rfl
@[simp] theorem State.modTrk_pins (s : State) (c : Channel) (f : Tracker → Tracker) : (s.modTrk c f).pins = s.pins := rfl
@[simp] theorem State.modTrk_globals (s : State) (c : Channel) (f : Tracker → Tracker) : (s.modTrk c f).globals = s.globals := rfl
@[simp] theorem State.modTrk_queue (s : State) (c : Channel) (f : Tracker → Tracker) : (s.modTrk c f).queue = s.queue := rfl
@[simp] theorem State.modTrk_supply (s : State) (c : Channel) (f : Tracker → Tracker) : (s.modTrk c f).supply = s.supply := rfl
@[simp] theorem State.modTrk_motion (s : State) (c : Channel) (f : Tracker → Tracker) : (s.modTrk c f).motion = s.motion := rfl
@[simp] theorem State.modTrk_vehicle (s : State) (c : Channel) (f : Tracker → Tracker) : (s.modTrk c f).vehicle = s.vehicle := rfl
@[simp] theorem State.modTrk_log (s : State) (c : Channel) (f : Tracker → Tracker) : (s.modTrk c f).log = s.log := rfl
@[simp] theorem State.modTrk_tap (s : State) (c : Channel) (f : Tracker → Tracker) : (s.modTrk c f).tap = s.tap := rfl
@[simp] theorem State.modTrk_perms (s : State) (c : Channel) (f : Tracker → Tracker) : (s.modTrk c f).perms = s.perms := rfl
@[simp] theorem State.modTrk_priv (s : State) (c : Channel) (f : Tracker → Tracker) : (s.modTrk c f).priv = s.priv := rfl
@[simp] theorem State.modTrk_link (s : State) (c : Channel) (f : Tracker → Tracker) : (s.modTrk c f).link = s.link := rfl
@[simp] theorem State.modTrk_store (s : State) (c : Channel) (f : Tracker → Tracker) : (s.modTrk c f).store = s.store := rfl
@[simp] theorem State.modTrk_freeCount (s : State) (c : Channel) (f : Tracker → Tracker) : (s.modTrk c f).freeCount = s.freeCount := rfl
@[simp] theorem State.modTrk_pending (s : State) (c : Channel) (f : Tracker → Tracker) : (s.modTrk c f).pending = s.pending := rfl

@[simp] theorem State.slice_modTrk_same (s : State) (c : Channel) (f : Tracker → Tracker) :
    (s.modTrk c f).slice c = { s.slice c with trk := f (s.slice c).trk } := State.slice_modSlice_same s c _

theorem State.slice_modTrk_ne (s : State) {c d : Channel} (f : Tracker → Tracker) (h : d ≠ c) :
    (s.modTrk c f).slice d = s.slice d := State.slice_modSlice_ne s _ h

theorem State.slice_modTrk (s : State) (c d : Channel) (f : Tracker → Tracker) :
    (s.modTrk c f).slice d = if d = c then { s.slice c with trk := f (s.slice c).trk } else s.slice d :=
  State.slice_modSlice s c d _

@[simp] theorem State.modTrk_cfg (s : State) (c d : Channel) (f : Tracker → Tracker) :
    ((s.modTrk c f).slice d).cfg = (s.slice d).cfg := by rw [State.slice_modTrk]; split <;> simp_all
@[simp] theorem State.modTrk_ctl (s : State) (c d : Channel) (f : Tracker → Tracker) :
    ((s.modTrk c f).slice d).ctl = (s.slice d).ctl := by rw [State.slice_modTrk]; split <;> simp_all
@[simp] theorem State.modTrk_drv (s : State) (c d : Channel) (f : Tracker → Tracker) :
    ((s.modTrk c f).slice d).drv = (s.slice d).drv := by rw [State.slice_modTrk]; split <;> simp_all
@[simp] theorem State.modTrk_arb (s : State) (c d : Channel) (f : Tracker → Tracker) :
    ((s.modTrk c f).slice d).arb = (s.slice d).arb := by rw [State.slice_modTrk]; split <;> simp_all
@[simp] theorem State.modTrk_est (s : State) (c d : Channel) (f : Tracker → Tracker) :
    ((s.modTrk c f).slice d).est = (s.slice d).est := by rw [State.slice_modTrk]; split <;> simp_all
@[simp] theorem State.modTrk_vdu (s : State) (c d : Channel) (f : Tracker → Tracker) :
    ((s.modTrk c f).slice d).vdu = (s.slice d).vdu := by rw [State.slice_modTrk]; split <;> simp_all
@[simp] theorem State.modTrk_prf (s : State) (c d : Channel) (f : Tracker → Tracker) :
    ((s.modTrk c f).slice d).prf = (s.slice d).prf := by rw [State.slice_modTrk]; split <;> simp_all
@[simp] theorem State.modTrk_ctr (s : State) (c d : Channel) (f : Tracker → Tracker) :
    ((s.modTrk c f).slice d).ctr = (s.slice d).ctr := by rw [State.slice_modTrk]; split <;> simp_all

/-! ### `State.modCtl` -/

@[simp] theorem State.modCtl_power (s : State) (c : Channel) (f : Controller → Controller) : (s.modCtl c f).power = s.power := rfl
@[simp] theorem State.modCtl_timeBase (s : State) (c : Channel) (f : Controller → Controller) : (s.modCtl c f).timeBase = s.timeBase := rfl
@[simp] theorem State.modCtl_pins (s : State) (c : Channel) (f : Controller → Controller) : (s.modCtl c f).pins = s.pins := rfl
@[simp] theorem State.modCtl_globals (s : State) (c : Channel) (f : Controller → Controller) : (s.modCtl c f).globals = s.globals := rfl
@[simp] theorem State.modCtl_queue (s : State) (c : Channel) (f : Controller → Controller) : (s.modCtl c f).queue = s.queue := rfl
@[simp] theorem State.modCtl_supply (s : State) (c : Channel) (f : Controller → Controller) : (s.modCtl c f).supply = s.supply := rfl
@[simp] theorem State.modCtl_motion (s : State) (c : Channel) (f : Controller → Controller) : (s.modCtl c f).motion = s.motion := rfl
@[simp] theorem State.modCtl_vehicle (s : State) (c : Channel) (f : Controller → Controller) : (s.modCtl c f).vehicle = s.vehicle := rfl
@[simp] theorem State.modCtl_log (s : State) (c : Channel) (f : Controller → Controller) : (s.modCtl c f).log = s.log := rfl
@[simp] theorem State.modCtl_tap (s : State) (c : Channel) (f : Controller → Controller) : (s.modCtl c f).tap = s.tap := rfl
@[simp] theorem State.modCtl_perms (s : State) (c : Channel) (f : Controller → Controller) : (s.modCtl c f).perms = s.perms := rfl
@[simp] theorem State.modCtl_priv (s : State) (c : Channel) (f : Controller → Controller) : (s.modCtl c f).priv = s.priv := rfl
@[simp] theorem State.modCtl_link (s : State) (c : Channel) (f : Controller → Controller) : (s.modCtl c f).link = s.link := rfl
@[simp] theorem State.modCtl_store (s : State) (c : Channel) (f : Controller → Controller) : (s.modCtl c f).store = s.store := rfl
@[simp] theorem State.modCtl_freeCount (s : State) (c : Channel) (f : Controller → Controller) : (s.modCtl c f).freeCount = s.freeCount := rfl
@[simp] theorem State.modCtl_pending (s : State) (c : Channel) (f : Controller → Controller) : (s.modCtl c f).pending = s.pending := rfl

@[simp] theorem State.slice_modCtl_same (s : State) (c : Channel) (f : Controller → Controller) :
    (s.modCtl c f).slice c = { s.slice c with ctl := f (s.slice c).ctl } := State.slice_modSlice_same s c _

theorem State.slice_modCtl_ne (s : State) {c d : Channel} (f : Controller → Controller) (h : d ≠ c) :
    (s.modCtl c f).slice d = s.slice d := State.slice_modSlice_ne s _ h

theorem State.slice_modCtl (s : State) (c d : Channel) (f : Controller → Controller) :
    (s.modCtl c f).slice d = if d = c then { s.slice c with ctl := f (s.slice c).ctl } else s.slice d :=
  State.slice_modSlice s c d _

@[simp] theorem State.modCtl_cfg (s : State) (c d : Channel) (f : Controller → Controller) :
    ((s.modCtl c f).slice d).cfg = (s.slice d).cfg := by rw [State.slice_modCtl]; split <;> simp_all
@[simp] theorem State.modCtl_trk (s : State) (c d : Channel) (f : Controller → Controller) :
    ((s.modCtl c f).slice d).trk = (s.slice d).trk := by rw [State.slice_modCtl]; split <;> simp_all
@[simp] theorem State.modCtl_drv (s : State) (c d : Channel) (f : Controller → Controller) :
    ((s.modCtl c f).slice d).drv = (s.slice d).drv := by rw [State.slice_modCtl]; split <;> simp_all
@[simp] theorem State.modCtl_arb (s : State) (c d : Channel) (f : Controller → Controller) :
    ((s.modCtl c f).slice d).arb = (s.slice d).arb := by rw [State.slice_modCtl]; split <;> simp_all
@[simp] theorem State.modCtl_est (s : State) (c d : Channel) (f : Controller → Controller) :
    ((s.modCtl c f).slice d).est = (s.slice d).est := by rw [State.slice_modCtl]; split <;> simp_all
@[simp] theorem State.modCtl_vdu (s : State) (c d : Channel) (f : Controller → Controller) :
    ((s.modCtl c f).slice d).vdu = (s.slice d).vdu := by rw [State.slice_modCtl]; split <;> simp_all
@[simp] theorem State.modCtl_prf (s : State) (c d : Channel) (f : Controller → Controller) :
    ((s.modCtl c f).slice d).prf = (s.slice d).prf := by rw [State.slice_modCtl]; split <;> simp_all
@[simp] theorem State.modCtl_ctr (s : State) (c d : Channel) (f : Controller → Controller) :
    ((s.modCtl c f).slice d).ctr = (s.slice d).ctr := by rw [State.slice_modCtl]; split <;> simp_all

/-! ### `State.modDrv` -/

@[simp] theorem State.modDrv_power (s : State) (c : Channel) (f : Drive → Drive) : (s.modDrv c f).power = s.power := rfl
@[simp] theorem State.modDrv_timeBase (s : State) (c : Channel) (f : Drive → Drive) : (s.modDrv c f).timeBase = s.timeBase := rfl
@[simp] theorem State.modDrv_pins (s : State) (c : Channel) (f : Drive → Drive) : (s.modDrv c f).pins = s.pins := rfl
@[simp] theorem State.modDrv_globals (s : State) (c : Channel) (f : Drive → Drive) : (s.modDrv c f).globals = s.globals := rfl
@[simp] theorem State.modDrv_queue (s : State) (c : Channel) (f : Drive → Drive) : (s.modDrv c f).queue = s.queue := rfl
@[simp] theorem State.modDrv_supply (s : State) (c : Channel) (f : Drive → Drive) : (s.modDrv c f).supply = s.supply := rfl
@[simp] theorem State.modDrv_motion (s : State) (c : Channel) (f : Drive → Drive) : (s.modDrv c f).motion = s.motion := rfl
@[simp] theorem State.modDrv_vehicle (s : State) (c : Channel) (f : Drive → Drive) : (s.modDrv c f).vehicle = s.vehicle := rfl
@[simp] theorem State.modDrv_log (s : State) (c : Channel) (f : Drive → Drive) : (s.modDrv c f).log = s.log := rfl
@[simp] theorem State.modDrv_tap (s : State) (c : Channel) (f : Drive → Drive) : (s.modDrv c f).tap = s.tap := rfl
@[simp] theorem State.modDrv_perms (s : State) (c : Channel) (f : Drive → Drive) : (s.modDrv c f).perms = s.perms := rfl
@[simp] theorem State.modDrv_priv (s : State) (c : Channel) (f : Drive → Drive) : (s.modDrv c f).priv = s.priv := rfl
@[simp] theorem State.modDrv_link (s : State) (c : Channel) (f : Drive → Drive) : (s.modDrv c f).link = s.link := rfl
@[simp] theorem State.modDrv_store (s : State) (c : Channel) (f : Drive → Drive) : (s.modDrv c f).store = s.store := rfl
@[simp] theorem State.modDrv_freeCount (s : State) (c : Channel) (f : Drive → Drive) : (s.modDrv c f).freeCount = s.freeCount := rfl
@[simp] theorem State.modDrv_pending (s : State) (c : Channel) (f : Drive → Drive) : (s.modDrv c f).pending = s.pending := rfl

@[simp] theorem State.slice_modDrv_same (s : State) (c : Channel) (f : Drive → Drive) :
    (s.modDrv c f).slice c = { s.slice c with drv := f (s.slice c).drv } := State.slice_modSlice_same s c _

theorem State.slice_modDrv_ne (s : State) {c d : Channel} (f : Drive → Drive) (h : d ≠ c) :
    (s.modDrv c f).slice d = s.slice d := State.slice_modSlice_ne s _ h

theorem State.slice_modDrv (s : State) (c d : Channel) (f : Drive → Drive) :
    (s.modDrv c f).slice d = if d = c then { s.slice c with drv := f (s.slice c).drv } else s.slice d :=
  State.slice_modSlice s c d _

@[simp] theorem State.modDrv_cfg (s : State) (c d : Channel) (f : Drive → Drive) :
    ((s.modDrv c f).slice d).cfg = (s.slice d).cfg := by rw [State.slice_modDrv]; split <;> simp_all
@[simp] theorem State.modDrv_trk (s : State) (c d : Channel) (f : Drive → Drive) :
    ((s.modDrv c f).slice d).trk = (s.slice d).trk := by rw [State.slice_modDrv]; split <;> simp_all
@[simp] theorem State.modDrv_ctl (s : State) (c d : Channel) (f : Drive → Drive) :
    ((s.modDrv c f).slice d).ctl = (s.slice d).ctl := by rw [State.slice_modDrv]; split <;> simp_all
@[simp] theorem State.modDrv_arb (s : State) (c d : Channel) (f : Drive → Drive) :
    ((s.modDrv c f).slice d).arb = (s.slice d).arb := by rw [State.slice_modDrv]; split <;> simp_all
@[simp] theorem State.modDrv_est (s : State) (c d : Channel) (f : Drive → Drive) :
    ((s.modDrv c f).slice d).est = (s.slice d).est := by rw [State.slice_modDrv]; split <;> simp_all
@[simp] theorem State.modDrv_vdu (s : State) (c d : Channel) (f : Drive → Drive) :
    ((s.modDrv c f).slice d).vdu = (s.slice d).vdu := by rw [State.slice_modDrv]; split <;> simp_all
@[simp] theorem State.modDrv_prf (s : State) (c d : Channel) (f : Drive → Drive) :
    ((s.modDrv c f).slice d).prf = (s.slice d).prf := by rw [State.slice_modDrv]; split <;> simp_all
@[simp] theorem State.modDrv_ctr (s : State) (c d : Channel) (f : Drive → Drive) :
    ((s.modDrv c f).slice d).ctr = (s.slice d).ctr := by rw [State.slice_modDrv]; split <;> simp_all

/-! ### `State.modArb` -/

@[simp] theorem State.modArb_power (s : State) (c : Channel) (f : Grant → Grant) : (s.modArb c f).power = s.power := rfl
@[simp] theorem State.modArb_timeBase (s : State) (c : Channel) (f : Grant → Grant) : (s.modArb c f).timeBase = s.timeBase := rfl
@[simp] theorem State.modArb_pins (s : State) (c : Channel) (f : Grant → Grant) : (s.modArb c f).pins = s.pins := rfl
@[simp] theorem State.modArb_globals (s : State) (c : Channel) (f : Grant → Grant) : (s.modArb c f).globals = s.globals := rfl
@[simp] theorem State.modArb_queue (s : State) (c : Channel) (f : Grant → Grant) : (s.modArb c f).queue = s.queue := rfl
@[simp] theorem State.modArb_supply (s : State) (c : Channel) (f : Grant → Grant) : (s.modArb c f).supply = s.supply := rfl
@[simp] theorem State.modArb_motion (s : State) (c : Channel) (f : Grant → Grant) : (s.modArb c f).motion = s.motion := rfl
@[simp] theorem State.modArb_vehicle (s : State) (c : Channel) (f : Grant → Grant) : (s.modArb c f).vehicle = s.vehicle := rfl
@[simp] theorem State.modArb_log (s : State) (c : Channel) (f : Grant → Grant) : (s.modArb c f).log = s.log := rfl
@[simp] theorem State.modArb_tap (s : State) (c : Channel) (f : Grant → Grant) : (s.modArb c f).tap = s.tap := rfl
@[simp] theorem State.modArb_perms (s : State) (c : Channel) (f : Grant → Grant) : (s.modArb c f).perms = s.perms := rfl
@[simp] theorem State.modArb_priv (s : State) (c : Channel) (f : Grant → Grant) : (s.modArb c f).priv = s.priv := rfl
@[simp] theorem State.modArb_link (s : State) (c : Channel) (f : Grant → Grant) : (s.modArb c f).link = s.link := rfl
@[simp] theorem State.modArb_store (s : State) (c : Channel) (f : Grant → Grant) : (s.modArb c f).store = s.store := rfl
@[simp] theorem State.modArb_freeCount (s : State) (c : Channel) (f : Grant → Grant) : (s.modArb c f).freeCount = s.freeCount := rfl
@[simp] theorem State.modArb_pending (s : State) (c : Channel) (f : Grant → Grant) : (s.modArb c f).pending = s.pending := rfl

@[simp] theorem State.slice_modArb_same (s : State) (c : Channel) (f : Grant → Grant) :
    (s.modArb c f).slice c = { s.slice c with arb := f (s.slice c).arb } := State.slice_modSlice_same s c _

theorem State.slice_modArb_ne (s : State) {c d : Channel} (f : Grant → Grant) (h : d ≠ c) :
    (s.modArb c f).slice d = s.slice d := State.slice_modSlice_ne s _ h

theorem State.slice_modArb (s : State) (c d : Channel) (f : Grant → Grant) :
    (s.modArb c f).slice d = if d = c then { s.slice c with arb := f (s.slice c).arb } else s.slice d :=
  State.slice_modSlice s c d _

@[simp] theorem State.modArb_cfg (s : State) (c d : Channel) (f : Grant → Grant) :
    ((s.modArb c f).slice d).cfg = (s.slice d).cfg := by rw [State.slice_modArb]; split <;> simp_all
@[simp] theorem State.modArb_trk (s : State) (c d : Channel) (f : Grant → Grant) :
    ((s.modArb c f).slice d).trk = (s.slice d).trk := by rw [State.slice_modArb]; split <;> simp_all
@[simp] theorem State.modArb_ctl (s : State) (c d : Channel) (f : Grant → Grant) :
    ((s.modArb c f).slice d).ctl = (s.slice d).ctl := by rw [State.slice_modArb]; split <;> simp_all
@[simp] theorem State.modArb_drv (s : State) (c d : Channel) (f : Grant → Grant) :
    ((s.modArb c f).slice d).drv = (s.slice d).drv := by rw [State.slice_modArb]; split <;> simp_all
@[simp] theorem State.modArb_est (s : State) (c d : Channel) (f : Grant → Grant) :
    ((s.modArb c f).slice d).est = (s.slice d).est := by rw [State.slice_modArb]; split <;> simp_all
@[simp] theorem State.modArb_vdu (s : State) (c d : Channel) (f : Grant → Grant) :
    ((s.modArb c f).slice d).vdu = (s.slice d).vdu := by rw [State.slice_modArb]; split <;> simp_all
@[simp] theorem State.modArb_prf (s : State) (c d : Channel) (f : Grant → Grant) :
    ((s.modArb c f).slice d).prf = (s.slice d).prf := by rw [State.slice_modArb]; split <;> simp_all
@[simp] theorem State.modArb_ctr (s : State) (c d : Channel) (f : Grant → Grant) :
    ((s.modArb c f).slice d).ctr = (s.slice d).ctr := by rw [State.slice_modArb]; split <;> simp_all

/-! ### `State.modEst` -/

@[simp] theorem State.modEst_power (s : State) (c : Channel) (f : Estimator → Estimator) : (s.modEst c f).power = s.power := rfl
@[simp] theorem State.modEst_timeBase (s : State) (c : Channel) (f : Estimator → Estimator) : (s.modEst c f).timeBase = s.timeBase := rfl
@[simp] theorem State.modEst_pins (s : State) (c : Channel) (f : Estimator → Estimator) : (s.modEst c f).pins = s.pins := rfl
@[simp] theorem State.modEst_globals (s : State) (c : Channel) (f : Estimator → Estimator) : (s.modEst c f).globals = s.globals := rfl
@[simp] theorem State.modEst_queue (s : State) (c : Channel) (f : Estimator → Estimator) : (s.modEst c f).queue = s.queue := rfl
@[simp] theorem State.modEst_supply (s : State) (c : Channel) (f : Estimator → Estimator) : (s.modEst c f).supply = s.supply := rfl
@[simp] theorem State.modEst_motion (s : State) (c : Channel) (f : Estimator → Estimator) : (s.modEst c f).motion = s.motion := rfl
@[simp] theorem State.modEst_vehicle (s : State) (c : Channel) (f : Estimator → Estimator) : (s.modEst c f).vehicle = s.vehicle := rfl
@[simp] theorem State.modEst_log (s : State) (c : Channel) (f : Estimator → Estimator) : (s.modEst c f).log = s.log := rfl
@[simp] theorem State.modEst_tap (s : State) (c : Channel) (f : Estimator → Estimator) : (s.modEst c f).tap = s.tap := rfl
@[simp] theorem State.modEst_perms (s : State) (c : Channel) (f : Estimator → Estimator) : (s.modEst c f).perms = s.perms := rfl
@[simp] theorem State.modEst_priv (s : State) (c : Channel) (f : Estimator → Estimator) : (s.modEst c f).priv = s.priv := rfl
@[simp] theorem State.modEst_link (s : State) (c : Channel) (f : Estimator → Estimator) : (s.modEst c f).link = s.link := rfl
@[simp] theorem State.modEst_store (s : State) (c : Channel) (f : Estimator → Estimator) : (s.modEst c f).store = s.store := rfl
@[simp] theorem State.modEst_freeCount (s : State) (c : Channel) (f : Estimator → Estimator) : (s.modEst c f).freeCount = s.freeCount := rfl
@[simp] theorem State.modEst_pending (s : State) (c : Channel) (f : Estimator → Estimator) : (s.modEst c f).pending = s.pending := rfl

@[simp] theorem State.slice_modEst_same (s : State) (c : Channel) (f : Estimator → Estimator) :
    (s.modEst c f).slice c = { s.slice c with est := f (s.slice c).est } := State.slice_modSlice_same s c _

theorem State.slice_modEst_ne (s : State) {c d : Channel} (f : Estimator → Estimator) (h : d ≠ c) :
    (s.modEst c f).slice d = s.slice d := State.slice_modSlice_ne s _ h

theorem State.slice_modEst (s : State) (c d : Channel) (f : Estimator → Estimator) :
    (s.modEst c f).slice d = if d = c then { s.slice c with est := f (s.slice c).est } else s.slice d :=
  State.slice_modSlice s c d _

@[simp] theorem State.modEst_cfg (s : State) (c d : Channel) (f : Estimator → Estimator) :
    ((s.modEst c f).slice d).cfg = (s.slice d).cfg := by rw [State.slice_modEst]; split <;> simp_all
@[simp] theorem State.modEst_trk (s : State) (c d : Channel) (f : Estimator → Estimator) :
    ((s.modEst c f).slice d).trk = (s.slice d).trk := by rw [State.slice_modEst]; split <;> simp_all
@[simp] theorem State.modEst_ctl (s : State) (c d : Channel) (f : Estimator → Estimator) :
    ((s.modEst c f).slice d).ctl = (s.slice d).ctl := by rw [State.slice_modEst]; split <;> simp_all
@[simp] theorem State.modEst_drv (s : State) (c d : Channel) (f : Estimator → Estimator) :
    ((s.modEst c f).slice d).drv = (s.slice d).drv := by rw [State.slice_modEst]; split <;> simp_all
@[simp] theorem State.modEst_arb (s : State) (c d : Channel) (f : Estimator → Estimator) :
    ((s.modEst c f).slice d).arb = (s.slice d).arb := by rw [State.slice_modEst]; split <;> simp_all
@[simp] theorem State.modEst_vdu (s : State) (c d : Channel) (f : Estimator → Estimator) :
    ((s.modEst c f).slice d).vdu = (s.slice d).vdu := by rw [State.slice_modEst]; split <;> simp_all
@[simp] theorem State.modEst_prf (s : State) (c d : Channel) (f : Estimator → Estimator) :
    ((s.modEst c f).slice d).prf = (s.slice d).prf := by rw [State.slice_modEst]; split <;> simp_all
@[simp] theorem State.modEst_ctr (s : State) (c d : Channel) (f : Estimator → Estimator) :
    ((s.modEst c f).slice d).ctr = (s.slice d).ctr := by rw [State.slice_modEst]; split <;> simp_all

/-! ### `State.modVdu` -/

@[simp] theorem State.modVdu_power (s : State) (c : Channel) (f : VerdictUnit → VerdictUnit) : (s.modVdu c f).power = s.power := rfl
@[simp] theorem State.modVdu_timeBase (s : State) (c : Channel) (f : VerdictUnit → VerdictUnit) : (s.modVdu c f).timeBase = s.timeBase := rfl
@[simp] theorem State.modVdu_pins (s : State) (c : Channel) (f : VerdictUnit → VerdictUnit) : (s.modVdu c f).pins = s.pins := rfl
@[simp] theorem State.modVdu_globals (s : State) (c : Channel) (f : VerdictUnit → VerdictUnit) : (s.modVdu c f).globals = s.globals := rfl
@[simp] theorem State.modVdu_queue (s : State) (c : Channel) (f : VerdictUnit → VerdictUnit) : (s.modVdu c f).queue = s.queue := rfl
@[simp] theorem State.modVdu_supply (s : State) (c : Channel) (f : VerdictUnit → VerdictUnit) : (s.modVdu c f).supply = s.supply := rfl
@[simp] theorem State.modVdu_motion (s : State) (c : Channel) (f : VerdictUnit → VerdictUnit) : (s.modVdu c f).motion = s.motion := rfl
@[simp] theorem State.modVdu_vehicle (s : State) (c : Channel) (f : VerdictUnit → VerdictUnit) : (s.modVdu c f).vehicle = s.vehicle := rfl
@[simp] theorem State.modVdu_log (s : State) (c : Channel) (f : VerdictUnit → VerdictUnit) : (s.modVdu c f).log = s.log := rfl
@[simp] theorem State.modVdu_tap (s : State) (c : Channel) (f : VerdictUnit → VerdictUnit) : (s.modVdu c f).tap = s.tap := rfl
@[simp] theorem State.modVdu_perms (s : State) (c : Channel) (f : VerdictUnit → VerdictUnit) : (s.modVdu c f).perms = s.perms := rfl
@[simp] theorem State.modVdu_priv (s : State) (c : Channel) (f : VerdictUnit → VerdictUnit) : (s.modVdu c f).priv = s.priv := rfl
@[simp] theorem State.modVdu_link (s : State) (c : Channel) (f : VerdictUnit → VerdictUnit) : (s.modVdu c f).link = s.link := rfl
@[simp] theorem State.modVdu_store (s : State) (c : Channel) (f : VerdictUnit → VerdictUnit) : (s.modVdu c f).store = s.store := rfl
@[simp] theorem State.modVdu_freeCount (s : State) (c : Channel) (f : VerdictUnit → VerdictUnit) : (s.modVdu c f).freeCount = s.freeCount := rfl
@[simp] theorem State.modVdu_pending (s : State) (c : Channel) (f : VerdictUnit → VerdictUnit) : (s.modVdu c f).pending = s.pending := rfl

@[simp] theorem State.slice_modVdu_same (s : State) (c : Channel) (f : VerdictUnit → VerdictUnit) :
    (s.modVdu c f).slice c = { s.slice c with vdu := f (s.slice c).vdu } := State.slice_modSlice_same s c _

theorem State.slice_modVdu_ne (s : State) {c d : Channel} (f : VerdictUnit → VerdictUnit) (h : d ≠ c) :
    (s.modVdu c f).slice d = s.slice d := State.slice_modSlice_ne s _ h

theorem State.slice_modVdu (s : State) (c d : Channel) (f : VerdictUnit → VerdictUnit) :
    (s.modVdu c f).slice d = if d = c then { s.slice c with vdu := f (s.slice c).vdu } else s.slice d :=
  State.slice_modSlice s c d _

@[simp] theorem State.modVdu_cfg (s : State) (c d : Channel) (f : VerdictUnit → VerdictUnit) :
    ((s.modVdu c f).slice d).cfg = (s.slice d).cfg := by rw [State.slice_modVdu]; split <;> simp_all
@[simp] theorem State.modVdu_trk (s : State) (c d : Channel) (f : VerdictUnit → VerdictUnit) :
    ((s.modVdu c f).slice d).trk = (s.slice d).trk := by rw [State.slice_modVdu]; split <;> simp_all
@[simp] theorem State.modVdu_ctl (s : State) (c d : Channel) (f : VerdictUnit → VerdictUnit) :
    ((s.modVdu c f).slice d).ctl = (s.slice d).ctl := by rw [State.slice_modVdu]; split <;> simp_all
@[simp] theorem State.modVdu_drv (s : State) (c d : Channel) (f : VerdictUnit → VerdictUnit) :
    ((s.modVdu c f).slice d).drv = (s.slice d).drv := by rw [State.slice_modVdu]; split <;> simp_all
@[simp] theorem State.modVdu_arb (s : State) (c d : Channel) (f : VerdictUnit → VerdictUnit) :
    ((s.modVdu c f).slice d).arb = (s.slice d).arb := by rw [State.slice_modVdu]; split <;> simp_all
@[simp] theorem State.modVdu_est (s : State) (c d : Channel) (f : VerdictUnit → VerdictUnit) :
    ((s.modVdu c f).slice d).est = (s.slice d).est := by rw [State.slice_modVdu]; split <;> simp_all
@[simp] theorem State.modVdu_prf (s : State) (c d : Channel) (f : VerdictUnit → VerdictUnit) :
    ((s.modVdu c f).slice d).prf = (s.slice d).prf := by rw [State.slice_modVdu]; split <;> simp_all
@[simp] theorem State.modVdu_ctr (s : State) (c d : Channel) (f : VerdictUnit → VerdictUnit) :
    ((s.modVdu c f).slice d).ctr = (s.slice d).ctr := by rw [State.slice_modVdu]; split <;> simp_all

/-! ### `State.modPrf` -/

@[simp] theorem State.modPrf_power (s : State) (c : Channel) (f : Profile → Profile) : (s.modPrf c f).power = s.power := rfl
@[simp] theorem State.modPrf_timeBase (s : State) (c : Channel) (f : Profile → Profile) : (s.modPrf c f).timeBase = s.timeBase := rfl
@[simp] theorem State.modPrf_pins (s : State) (c : Channel) (f : Profile → Profile) : (s.modPrf c f).pins = s.pins := rfl
@[simp] theorem State.modPrf_globals (s : State) (c : Channel) (f : Profile → Profile) : (s.modPrf c f).globals = s.globals := rfl
@[simp] theorem State.modPrf_queue (s : State) (c : Channel) (f : Profile → Profile) : (s.modPrf c f).queue = s.queue := rfl
@[simp] theorem State.modPrf_supply (s : State) (c : Channel) (f : Profile → Profile) : (s.modPrf c f).supply = s.supply := rfl
@[simp] theorem State.modPrf_motion (s : State) (c : Channel) (f : Profile → Profile) : (s.modPrf c f).motion = s.motion := rfl
@[simp] theorem State.modPrf_vehicle (s : State) (c : Channel) (f : Profile → Profile) : (s.modPrf c f).vehicle = s.vehicle := rfl
@[simp] theorem State.modPrf_log (s : State) (c : Channel) (f : Profile → Profile) : (s.modPrf c f).log = s.log := rfl
@[simp] theorem State.modPrf_tap (s : State) (c : Channel) (f : Profile → Profile) : (s.modPrf c f).tap = s.tap := rfl
@[simp] theorem State.modPrf_perms (s : State) (c : Channel) (f : Profile → Profile) : (s.modPrf c f).perms = s.perms := rfl
@[simp] theorem State.modPrf_priv (s : State) (c : Channel) (f : Profile → Profile) : (s.modPrf c f).priv = s.priv := rfl
@[simp] theorem State.modPrf_link (s : State) (c : Channel) (f : Profile → Profile) : (s.modPrf c f).link = s.link := rfl
@[simp] theorem State.modPrf_store (s : State) (c : Channel) (f : Profile → Profile) : (s.modPrf c f).store = s.store := rfl
@[simp] theorem State.modPrf_freeCount (s : State) (c : Channel) (f : Profile → Profile) : (s.modPrf c f).freeCount = s.freeCount := rfl
@[simp] theorem State.modPrf_pending (s : State) (c : Channel) (f : Profile → Profile) : (s.modPrf c f).pending = s.pending := rfl

@[simp] theorem State.slice_modPrf_same (s : State) (c : Channel) (f : Profile → Profile) :
    (s.modPrf c f).slice c = { s.slice c with prf := f (s.slice c).prf } := State.slice_modSlice_same s c _

theorem State.slice_modPrf_ne (s : State) {c d : Channel} (f : Profile → Profile) (h : d ≠ c) :
    (s.modPrf c f).slice d = s.slice d := State.slice_modSlice_ne s _ h

theorem State.slice_modPrf (s : State) (c d : Channel) (f : Profile → Profile) :
    (s.modPrf c f).slice d = if d = c then { s.slice c with prf := f (s.slice c).prf } else s.slice d :=
  State.slice_modSlice s c d _

@[simp] theorem State.modPrf_cfg (s : State) (c d : Channel) (f : Profile → Profile) :
    ((s.modPrf c f).slice d).cfg = (s.slice d).cfg := by rw [State.slice_modPrf]; split <;> simp_all
@[simp] theorem State.modPrf_trk (s : State) (c d : Channel) (f : Profile → Profile) :
    ((s.modPrf c f).slice d).trk = (s.slice d).trk := by rw [State.slice_modPrf]; split <;> simp_all
@[simp] theorem State.modPrf_ctl (s : State) (c d : Channel) (f : Profile → Profile) :
    ((s.modPrf c f).slice d).ctl = (s.slice d).ctl := by rw [State.slice_modPrf]; split <;> simp_all
@[simp] theorem State.modPrf_drv (s : State) (c d : Channel) (f : Profile → Profile) :
    ((s.modPrf c f).slice d).drv = (s.slice d).drv := by rw [State.slice_modPrf]; split <;> simp_all
@[simp] theorem State.modPrf_arb (s : State) (c d : Channel) (f : Profile → Profile) :
    ((s.modPrf c f).slice d).arb = (s.slice d).arb := by rw [State.slice_modPrf]; split <;> simp_all
@[simp] theorem State.modPrf_est (s : State) (c d : Channel) (f : Profile → Profile) :
    ((s.modPrf c f).slice d).est = (s.slice d).est := by rw [State.slice_modPrf]; split <;> simp_all
@[simp] theorem State.modPrf_vdu (s : State) (c d : Channel) (f : Profile → Profile) :
    ((s.modPrf c f).slice d).vdu = (s.slice d).vdu := by rw [State.slice_modPrf]; split <;> simp_all
@[simp] theorem State.modPrf_ctr (s : State) (c d : Channel) (f : Profile → Profile) :
    ((s.modPrf c f).slice d).ctr = (s.slice d).ctr := by rw [State.slice_modPrf]; split <;> simp_all

/-! ### `State.modCtr` -/

@[simp] theorem State.modCtr_power (s : State) (c : Channel) (f : Counters → Counters) : (s.modCtr c f).power = s.power := rfl
@[simp] theorem State.modCtr_timeBase (s : State) (c : Channel) (f : Counters → Counters) : (s.modCtr c f).timeBase = s.timeBase := rfl
@[simp] theorem State.modCtr_pins (s : State) (c : Channel) (f : Counters → Counters) : (s.modCtr c f).pins = s.pins := rfl
@[simp] theorem State.modCtr_globals (s : State) (c : Channel) (f : Counters → Counters) : (s.modCtr c f).globals = s.globals := rfl
@[simp] theorem State.modCtr_queue (s : State) (c : Channel) (f : Counters → Counters) : (s.modCtr c f).queue = s.queue := rfl
@[simp] theorem State.modCtr_supply (s : State) (c : Channel) (f : Counters → Counters) : (s.modCtr c f).supply = s.supply := rfl
@[simp] theorem State.modCtr_motion (s : State) (c : Channel) (f : Counters → Counters) : (s.modCtr c f).motion = s.motion := rfl
@[simp] theorem State.modCtr_vehicle (s : State) (c : Channel) (f : Counters → Counters) : (s.modCtr c f).vehicle = s.vehicle := rfl
@[simp] theorem State.modCtr_log (s : State) (c : Channel) (f : Counters → Counters) : (s.modCtr c f).log = s.log := rfl
@[simp] theorem State.modCtr_tap (s : State) (c : Channel) (f : Counters → Counters) : (s.modCtr c f).tap = s.tap := rfl
@[simp] theorem State.modCtr_perms (s : State) (c : Channel) (f : Counters → Counters) : (s.modCtr c f).perms = s.perms := rfl
@[simp] theorem State.modCtr_priv (s : State) (c : Channel) (f : Counters → Counters) : (s.modCtr c f).priv = s.priv := rfl
@[simp] theorem State.modCtr_link (s : State) (c : Channel) (f : Counters → Counters) : (s.modCtr c f).link = s.link := rfl
@[simp] theorem State.modCtr_store (s : State) (c : Channel) (f : Counters → Counters) : (s.modCtr c f).store = s.store := rfl
@[simp] theorem State.modCtr_freeCount (s : State) (c : Channel) (f : Counters → Counters) : (s.modCtr c f).freeCount = s.freeCount := rfl
@[simp] theorem State.modCtr_pending (s : State) (c : Channel) (f : Counters → Counters) : (s.modCtr c f).pending = s.pending := rfl

@[simp] theorem State.slice_modCtr_same (s : State) (c : Channel) (f : Counters → Counters) :
    (s.modCtr c f).slice c = { s.slice c with ctr := f (s.slice c).ctr } := State.slice_modSlice_same s c _

theorem State.slice_modCtr_ne (s : State) {c d : Channel} (f : Counters → Counters) (h : d ≠ c) :
    (s.modCtr c f).slice d = s.slice d := State.slice_modSlice_ne s _ h

theorem State.slice_modCtr (s : State) (c d : Channel) (f : Counters → Counters) :
    (s.modCtr c f).slice d = if d = c then { s.slice c with ctr := f (s.slice c).ctr } else s.slice d :=
  State.slice_modSlice s c d _

@[simp] theorem State.modCtr_cfg (s : State) (c d : Channel) (f : Counters → Counters) :
    ((s.modCtr c f).slice d).cfg = (s.slice d).cfg := by rw [State.slice_modCtr]; split <;> simp_all
@[simp] theorem State.modCtr_trk (s : State) (c d : Channel) (f : Counters → Counters) :
    ((s.modCtr c f).slice d).trk = (s.slice d).trk := by rw [State.slice_modCtr]; split <;> simp_all
@[simp] theorem State.modCtr_ctl (s : State) (c d : Channel) (f : Counters → Counters) :
    ((s.modCtr c f).slice d).ctl = (s.slice d).ctl := by rw [State.slice_modCtr]; split <;> simp_all
@[simp] theorem State.modCtr_drv (s : State) (c d : Channel) (f : Counters → Counters) :
    ((s.modCtr c f).slice d).drv = (s.slice d).drv := by rw [State.slice_modCtr]; split <;> simp_all
@[simp] theorem State.modCtr_arb (s : State) (c d : Channel) (f : Counters → Counters) :
    ((s.modCtr c f).slice d).arb = (s.slice d).arb := by rw [State.slice_modCtr]; split <;> simp_all
@[simp] theorem State.modCtr_est (s : State) (c d : Channel) (f : Counters → Counters) :
    ((s.modCtr c f).slice d).est = (s.slice d).est := by rw [State.slice_modCtr]; split <;> simp_all
@[simp] theorem State.modCtr_vdu (s : State) (c d : Channel) (f : Counters → Counters) :
    ((s.modCtr c f).slice d).vdu = (s.slice d).vdu := by rw [State.slice_modCtr]; split <;> simp_all
@[simp] theorem State.modCtr_prf (s : State) (c d : Channel) (f : Counters → Counters) :
    ((s.modCtr c f).slice d).prf = (s.slice d).prf := by rw [State.slice_modCtr]; split <;> simp_all

/-! ### The shared blocks -/

@[simp] theorem State.modLink_power (s : State) (f : Link → Link) : (s.modLink f).power = s.power := rfl
@[simp] theorem State.modLink_timeBase (s : State) (f : Link → Link) : (s.modLink f).timeBase = s.timeBase := rfl
@[simp] theorem State.modLink_pins (s : State) (f : Link → Link) : (s.modLink f).pins = s.pins := rfl
@[simp] theorem State.modLink_globals (s : State) (f : Link → Link) : (s.modLink f).globals = s.globals := rfl
@[simp] theorem State.modLink_queue (s : State) (f : Link → Link) : (s.modLink f).queue = s.queue := rfl
@[simp] theorem State.modLink_supply (s : State) (f : Link → Link) : (s.modLink f).supply = s.supply := rfl
@[simp] theorem State.modLink_motion (s : State) (f : Link → Link) : (s.modLink f).motion = s.motion := rfl
@[simp] theorem State.modLink_vehicle (s : State) (f : Link → Link) : (s.modLink f).vehicle = s.vehicle := rfl
@[simp] theorem State.modLink_log (s : State) (f : Link → Link) : (s.modLink f).log = s.log := rfl
@[simp] theorem State.modLink_tap (s : State) (f : Link → Link) : (s.modLink f).tap = s.tap := rfl
@[simp] theorem State.modLink_perms (s : State) (f : Link → Link) : (s.modLink f).perms = s.perms := rfl
@[simp] theorem State.modLink_priv (s : State) (f : Link → Link) : (s.modLink f).priv = s.priv := rfl
@[simp] theorem State.modLink_store (s : State) (f : Link → Link) : (s.modLink f).store = s.store := rfl
@[simp] theorem State.modLink_freeCount (s : State) (f : Link → Link) : (s.modLink f).freeCount = s.freeCount := rfl
@[simp] theorem State.modLink_pending (s : State) (f : Link → Link) : (s.modLink f).pending = s.pending := rfl
@[simp] theorem State.modLink_ch (s : State) (f : Link → Link) : (s.modLink f).ch = s.ch := rfl
@[simp] theorem State.modLink_slice (s : State) (f : Link → Link) (c : Channel) : (s.modLink f).slice c = s.slice c := rfl
@[simp] theorem State.modCounters_power (s : State) (f : LinkCounters → LinkCounters) : (s.modCounters f).power = s.power := rfl
@[simp] theorem State.modCounters_timeBase (s : State) (f : LinkCounters → LinkCounters) : (s.modCounters f).timeBase = s.timeBase := rfl
@[simp] theorem State.modCounters_pins (s : State) (f : LinkCounters → LinkCounters) : (s.modCounters f).pins = s.pins := rfl
@[simp] theorem State.modCounters_globals (s : State) (f : LinkCounters → LinkCounters) : (s.modCounters f).globals = s.globals := rfl
@[simp] theorem State.modCounters_queue (s : State) (f : LinkCounters → LinkCounters) : (s.modCounters f).queue = s.queue := rfl
@[simp] theorem State.modCounters_supply (s : State) (f : LinkCounters → LinkCounters) : (s.modCounters f).supply = s.supply := rfl
@[simp] theorem State.modCounters_motion (s : State) (f : LinkCounters → LinkCounters) : (s.modCounters f).motion = s.motion := rfl
@[simp] theorem State.modCounters_vehicle (s : State) (f : LinkCounters → LinkCounters) : (s.modCounters f).vehicle = s.vehicle := rfl
@[simp] theorem State.modCounters_log (s : State) (f : LinkCounters → LinkCounters) : (s.modCounters f).log = s.log := rfl
@[simp] theorem State.modCounters_tap (s : State) (f : LinkCounters → LinkCounters) : (s.modCounters f).tap = s.tap := rfl
@[simp] theorem State.modCounters_perms (s : State) (f : LinkCounters → LinkCounters) : (s.modCounters f).perms = s.perms := rfl
@[simp] theorem State.modCounters_priv (s : State) (f : LinkCounters → LinkCounters) : (s.modCounters f).priv = s.priv := rfl
@[simp] theorem State.modCounters_store (s : State) (f : LinkCounters → LinkCounters) : (s.modCounters f).store = s.store := rfl
@[simp] theorem State.modCounters_freeCount (s : State) (f : LinkCounters → LinkCounters) : (s.modCounters f).freeCount = s.freeCount := rfl
@[simp] theorem State.modCounters_pending (s : State) (f : LinkCounters → LinkCounters) : (s.modCounters f).pending = s.pending := rfl
@[simp] theorem State.modCounters_ch (s : State) (f : LinkCounters → LinkCounters) : (s.modCounters f).ch = s.ch := rfl
@[simp] theorem State.modCounters_slice (s : State) (f : LinkCounters → LinkCounters) (c : Channel) : (s.modCounters f).slice c = s.slice c := rfl
@[simp] theorem State.modStore_power (s : State) (f : Store → Store) : (s.modStore f).power = s.power := rfl
@[simp] theorem State.modStore_timeBase (s : State) (f : Store → Store) : (s.modStore f).timeBase = s.timeBase := rfl
@[simp] theorem State.modStore_pins (s : State) (f : Store → Store) : (s.modStore f).pins = s.pins := rfl
@[simp] theorem State.modStore_globals (s : State) (f : Store → Store) : (s.modStore f).globals = s.globals := rfl
@[simp] theorem State.modStore_queue (s : State) (f : Store → Store) : (s.modStore f).queue = s.queue := rfl
@[simp] theorem State.modStore_supply (s : State) (f : Store → Store) : (s.modStore f).supply = s.supply := rfl
@[simp] theorem State.modStore_motion (s : State) (f : Store → Store) : (s.modStore f).motion = s.motion := rfl
@[simp] theorem State.modStore_vehicle (s : State) (f : Store → Store) : (s.modStore f).vehicle = s.vehicle := rfl
@[simp] theorem State.modStore_log (s : State) (f : Store → Store) : (s.modStore f).log = s.log := rfl
@[simp] theorem State.modStore_tap (s : State) (f : Store → Store) : (s.modStore f).tap = s.tap := rfl
@[simp] theorem State.modStore_perms (s : State) (f : Store → Store) : (s.modStore f).perms = s.perms := rfl
@[simp] theorem State.modStore_priv (s : State) (f : Store → Store) : (s.modStore f).priv = s.priv := rfl
@[simp] theorem State.modStore_link (s : State) (f : Store → Store) : (s.modStore f).link = s.link := rfl
@[simp] theorem State.modStore_freeCount (s : State) (f : Store → Store) : (s.modStore f).freeCount = s.freeCount := rfl
@[simp] theorem State.modStore_pending (s : State) (f : Store → Store) : (s.modStore f).pending = s.pending := rfl
@[simp] theorem State.modStore_ch (s : State) (f : Store → Store) : (s.modStore f).ch = s.ch := rfl
@[simp] theorem State.modStore_slice (s : State) (f : Store → Store) (c : Channel) : (s.modStore f).slice c = s.slice c := rfl
@[simp] theorem State.modLink_link (s : State) (f : Link → Link) : (s.modLink f).link = f s.link := rfl
@[simp] theorem State.modCounters_link (s : State) (f : LinkCounters → LinkCounters) :
    (s.modCounters f).link = { s.link with counters := f s.link.counters } := rfl
@[simp] theorem State.modStore_store (s : State) (f : Store → Store) : (s.modStore f).store = f s.store := rfl

/-- Two updates of one slice are one. -/
theorem State.modSlice_modSlice (s : State) (c : Channel) (f g : Slice → Slice) :
    (s.modSlice c f).modSlice c g = s.modSlice c fun sl => g (f sl) := by
  have h : ∀ (o : Octet Slice), (o.modify c f).modify c g = o.modify c fun sl => g (f sl) := by
    intro o
    apply Octet.ext_get
    intro i
    simp only [Octet.get_modify]
    by_cases h : i = c
    · subst h; simp
    · simp [h]
  simp [State.modSlice, h]

end Sys2Proof.Machine
end

