-- ==== Sys2Proof/Laws/Ops.lean ====
section
/-! SUPPORT. What the shared operations of Machine/Ops.lean can do: one lemma per operation and field, and what a report's joining of a
queue and the transmitter's choice come to. -/

namespace Sys2Proof.Machine

/-! ### Queueing a report changes the body link only -/

@[simp] theorem State.queueReport_power (s : State) (k : ReportClass) (r : Report) : (s.queueReport k r).power = s.power := rfl
@[simp] theorem State.queueReport_timeBase (s : State) (k : ReportClass) (r : Report) : (s.queueReport k r).timeBase = s.timeBase := rfl
@[simp] theorem State.queueReport_pins (s : State) (k : ReportClass) (r : Report) : (s.queueReport k r).pins = s.pins := rfl
@[simp] theorem State.queueReport_ch (s : State) (k : ReportClass) (r : Report) : (s.queueReport k r).ch = s.ch := rfl
@[simp] theorem State.queueReport_globals (s : State) (k : ReportClass) (r : Report) : (s.queueReport k r).globals = s.globals := rfl
@[simp] theorem State.queueReport_queue (s : State) (k : ReportClass) (r : Report) : (s.queueReport k r).queue = s.queue := rfl
@[simp] theorem State.queueReport_supply (s : State) (k : ReportClass) (r : Report) : (s.queueReport k r).supply = s.supply := rfl
@[simp] theorem State.queueReport_motion (s : State) (k : ReportClass) (r : Report) : (s.queueReport k r).motion = s.motion := rfl
@[simp] theorem State.queueReport_vehicle (s : State) (k : ReportClass) (r : Report) : (s.queueReport k r).vehicle = s.vehicle := rfl
@[simp] theorem State.queueReport_log (s : State) (k : ReportClass) (r : Report) : (s.queueReport k r).log = s.log := rfl
@[simp] theorem State.queueReport_tap (s : State) (k : ReportClass) (r : Report) : (s.queueReport k r).tap = s.tap := rfl
@[simp] theorem State.queueReport_perms (s : State) (k : ReportClass) (r : Report) : (s.queueReport k r).perms = s.perms := rfl
@[simp] theorem State.queueReport_priv (s : State) (k : ReportClass) (r : Report) : (s.queueReport k r).priv = s.priv := rfl
@[simp] theorem State.queueReport_store (s : State) (k : ReportClass) (r : Report) : (s.queueReport k r).store = s.store := rfl
@[simp] theorem State.queueReport_freeCount (s : State) (k : ReportClass) (r : Report) : (s.queueReport k r).freeCount = s.freeCount := rfl
@[simp] theorem State.queueReport_pending (s : State) (k : ReportClass) (r : Report) : (s.queueReport k r).pending = s.pending := rfl
@[simp] theorem State.queueReport_slice (s : State) (k : ReportClass) (r : Report) (c : Channel) :
    (s.queueReport k r).slice c = s.slice c := rfl

/-- Everything a queued report does. -/
theorem State.queueReport_eq (s : State) (k : ReportClass) (r : Report) :
    s.queueReport k r =
      { s with link := (s.link.join (isUrgent s.globals.urgentKinds k) r).choose s.globals.wrr } := rfl

/-! ### Notices and answers change the body link only -/

@[simp] theorem State.answer_power (s : State) (tag : Byte) (k : RequestKind) (st : Status) (x : List (List Byte)) : (s.answer tag k st x).power = s.power := rfl
@[simp] theorem State.answer_timeBase (s : State) (tag : Byte) (k : RequestKind) (st : Status) (x : List (List Byte)) : (s.answer tag k st x).timeBase = s.timeBase := rfl
@[simp] theorem State.answer_pins (s : State) (tag : Byte) (k : RequestKind) (st : Status) (x : List (List Byte)) : (s.answer tag k st x).pins = s.pins := rfl
@[simp] theorem State.answer_ch (s : State) (tag : Byte) (k : RequestKind) (st : Status) (x : List (List Byte)) : (s.answer tag k st x).ch = s.ch := rfl
@[simp] theorem State.answer_globals (s : State) (tag : Byte) (k : RequestKind) (st : Status) (x : List (List Byte)) : (s.answer tag k st x).globals = s.globals := rfl
@[simp] theorem State.answer_queue (s : State) (tag : Byte) (k : RequestKind) (st : Status) (x : List (List Byte)) : (s.answer tag k st x).queue = s.queue := rfl
@[simp] theorem State.answer_supply (s : State) (tag : Byte) (k : RequestKind) (st : Status) (x : List (List Byte)) : (s.answer tag k st x).supply = s.supply := rfl
@[simp] theorem State.answer_motion (s : State) (tag : Byte) (k : RequestKind) (st : Status) (x : List (List Byte)) : (s.answer tag k st x).motion = s.motion := rfl
@[simp] theorem State.answer_vehicle (s : State) (tag : Byte) (k : RequestKind) (st : Status) (x : List (List Byte)) : (s.answer tag k st x).vehicle = s.vehicle := rfl
@[simp] theorem State.answer_log (s : State) (tag : Byte) (k : RequestKind) (st : Status) (x : List (List Byte)) : (s.answer tag k st x).log = s.log := rfl
@[simp] theorem State.answer_tap (s : State) (tag : Byte) (k : RequestKind) (st : Status) (x : List (List Byte)) : (s.answer tag k st x).tap = s.tap := rfl
@[simp] theorem State.answer_perms (s : State) (tag : Byte) (k : RequestKind) (st : Status) (x : List (List Byte)) : (s.answer tag k st x).perms = s.perms := rfl
@[simp] theorem State.answer_priv (s : State) (tag : Byte) (k : RequestKind) (st : Status) (x : List (List Byte)) : (s.answer tag k st x).priv = s.priv := rfl
@[simp] theorem State.answer_store (s : State) (tag : Byte) (k : RequestKind) (st : Status) (x : List (List Byte)) : (s.answer tag k st x).store = s.store := rfl
@[simp] theorem State.answer_freeCount (s : State) (tag : Byte) (k : RequestKind) (st : Status) (x : List (List Byte)) : (s.answer tag k st x).freeCount = s.freeCount := rfl
@[simp] theorem State.answer_pending (s : State) (tag : Byte) (k : RequestKind) (st : Status) (x : List (List Byte)) : (s.answer tag k st x).pending = s.pending := rfl
@[simp] theorem State.answer_slice (s : State) (tag : Byte) (k : RequestKind) (st : Status) (x : List (List Byte)) (d : Channel) : (s.answer tag k st x).slice d = s.slice d := rfl

@[simp] theorem State.answerPlain_power (s : State) (tag : Byte) (k : RequestKind) (st : Status) : (s.answerPlain tag k st).power = s.power := rfl
@[simp] theorem State.answerPlain_timeBase (s : State) (tag : Byte) (k : RequestKind) (st : Status) : (s.answerPlain tag k st).timeBase = s.timeBase := rfl
@[simp] theorem State.answerPlain_pins (s : State) (tag : Byte) (k : RequestKind) (st : Status) : (s.answerPlain tag k st).pins = s.pins := rfl
@[simp] theorem State.answerPlain_ch (s : State) (tag : Byte) (k : RequestKind) (st : Status) : (s.answerPlain tag k st).ch = s.ch := rfl
@[simp] theorem State.answerPlain_globals (s : State) (tag : Byte) (k : RequestKind) (st : Status) : (s.answerPlain tag k st).globals = s.globals := rfl
@[simp] theorem State.answerPlain_queue (s : State) (tag : Byte) (k : RequestKind) (st : Status) : (s.answerPlain tag k st).queue = s.queue := rfl
@[simp] theorem State.answerPlain_supply (s : State) (tag : Byte) (k : RequestKind) (st : Status) : (s.answerPlain tag k st).supply = s.supply := rfl
@[simp] theorem State.answerPlain_motion (s : State) (tag : Byte) (k : RequestKind) (st : Status) : (s.answerPlain tag k st).motion = s.motion := rfl
@[simp] theorem State.answerPlain_vehicle (s : State) (tag : Byte) (k : RequestKind) (st : Status) : (s.answerPlain tag k st).vehicle = s.vehicle := rfl
@[simp] theorem State.answerPlain_log (s : State) (tag : Byte) (k : RequestKind) (st : Status) : (s.answerPlain tag k st).log = s.log := rfl
@[simp] theorem State.answerPlain_tap (s : State) (tag : Byte) (k : RequestKind) (st : Status) : (s.answerPlain tag k st).tap = s.tap := rfl
@[simp] theorem State.answerPlain_perms (s : State) (tag : Byte) (k : RequestKind) (st : Status) : (s.answerPlain tag k st).perms = s.perms := rfl
@[simp] theorem State.answerPlain_priv (s : State) (tag : Byte) (k : RequestKind) (st : Status) : (s.answerPlain tag k st).priv = s.priv := rfl
@[simp] theorem State.answerPlain_store (s : State) (tag : Byte) (k : RequestKind) (st : Status) : (s.answerPlain tag k st).store = s.store := rfl
@[simp] theorem State.answerPlain_freeCount (s : State) (tag : Byte) (k : RequestKind) (st : Status) : (s.answerPlain tag k st).freeCount = s.freeCount := rfl
@[simp] theorem State.answerPlain_pending (s : State) (tag : Byte) (k : RequestKind) (st : Status) : (s.answerPlain tag k st).pending = s.pending := rfl
@[simp] theorem State.answerPlain_slice (s : State) (tag : Byte) (k : RequestKind) (st : Status) (d : Channel) : (s.answerPlain tag k st).slice d = s.slice d := rfl

@[simp] theorem State.answerClamped_power (s : State) (tag : Byte) (k : RequestKind) (v : Int) : (s.answerClamped tag k v).power = s.power := rfl
@[simp] theorem State.answerClamped_timeBase (s : State) (tag : Byte) (k : RequestKind) (v : Int) : (s.answerClamped tag k v).timeBase = s.timeBase := rfl
@[simp] theorem State.answerClamped_pins (s : State) (tag : Byte) (k : RequestKind) (v : Int) : (s.answerClamped tag k v).pins = s.pins := rfl
@[simp] theorem State.answerClamped_ch (s : State) (tag : Byte) (k : RequestKind) (v : Int) : (s.answerClamped tag k v).ch = s.ch := rfl
@[simp] theorem State.answerClamped_globals (s : State) (tag : Byte) (k : RequestKind) (v : Int) : (s.answerClamped tag k v).globals = s.globals := rfl
@[simp] theorem State.answerClamped_queue (s : State) (tag : Byte) (k : RequestKind) (v : Int) : (s.answerClamped tag k v).queue = s.queue := rfl
@[simp] theorem State.answerClamped_supply (s : State) (tag : Byte) (k : RequestKind) (v : Int) : (s.answerClamped tag k v).supply = s.supply := rfl
@[simp] theorem State.answerClamped_motion (s : State) (tag : Byte) (k : RequestKind) (v : Int) : (s.answerClamped tag k v).motion = s.motion := rfl
@[simp] theorem State.answerClamped_vehicle (s : State) (tag : Byte) (k : RequestKind) (v : Int) : (s.answerClamped tag k v).vehicle = s.vehicle := rfl
@[simp] theorem State.answerClamped_log (s : State) (tag : Byte) (k : RequestKind) (v : Int) : (s.answerClamped tag k v).log = s.log := rfl
@[simp] theorem State.answerClamped_tap (s : State) (tag : Byte) (k : RequestKind) (v : Int) : (s.answerClamped tag k v).tap = s.tap := rfl
@[simp] theorem State.answerClamped_perms (s : State) (tag : Byte) (k : RequestKind) (v : Int) : (s.answerClamped tag k v).perms = s.perms := rfl
@[simp] theorem State.answerClamped_priv (s : State) (tag : Byte) (k : RequestKind) (v : Int) : (s.answerClamped tag k v).priv = s.priv := rfl
@[simp] theorem State.answerClamped_store (s : State) (tag : Byte) (k : RequestKind) (v : Int) : (s.answerClamped tag k v).store = s.store := rfl
@[simp] theorem State.answerClamped_freeCount (s : State) (tag : Byte) (k : RequestKind) (v : Int) : (s.answerClamped tag k v).freeCount = s.freeCount := rfl
@[simp] theorem State.answerClamped_pending (s : State) (tag : Byte) (k : RequestKind) (v : Int) : (s.answerClamped tag k v).pending = s.pending := rfl
@[simp] theorem State.answerClamped_slice (s : State) (tag : Byte) (k : RequestKind) (v : Int) (d : Channel) : (s.answerClamped tag k v).slice d = s.slice d := rfl

@[simp] theorem State.noticeMoveEnd_power (s : State) (c : Channel) (r : Option Reason) (x : Option Status) : (s.noticeMoveEnd c r x).power = s.power := rfl
@[simp] theorem State.noticeMoveEnd_timeBase (s : State) (c : Channel) (r : Option Reason) (x : Option Status) : (s.noticeMoveEnd c r x).timeBase = s.timeBase := rfl
@[simp] theorem State.noticeMoveEnd_pins (s : State) (c : Channel) (r : Option Reason) (x : Option Status) : (s.noticeMoveEnd c r x).pins = s.pins := rfl
@[simp] theorem State.noticeMoveEnd_ch (s : State) (c : Channel) (r : Option Reason) (x : Option Status) : (s.noticeMoveEnd c r x).ch = s.ch := rfl
@[simp] theorem State.noticeMoveEnd_globals (s : State) (c : Channel) (r : Option Reason) (x : Option Status) : (s.noticeMoveEnd c r x).globals = s.globals := rfl
@[simp] theorem State.noticeMoveEnd_queue (s : State) (c : Channel) (r : Option Reason) (x : Option Status) : (s.noticeMoveEnd c r x).queue = s.queue := rfl
@[simp] theorem State.noticeMoveEnd_supply (s : State) (c : Channel) (r : Option Reason) (x : Option Status) : (s.noticeMoveEnd c r x).supply = s.supply := rfl
@[simp] theorem State.noticeMoveEnd_motion (s : State) (c : Channel) (r : Option Reason) (x : Option Status) : (s.noticeMoveEnd c r x).motion = s.motion := rfl
@[simp] theorem State.noticeMoveEnd_vehicle (s : State) (c : Channel) (r : Option Reason) (x : Option Status) : (s.noticeMoveEnd c r x).vehicle = s.vehicle := rfl
@[simp] theorem State.noticeMoveEnd_log (s : State) (c : Channel) (r : Option Reason) (x : Option Status) : (s.noticeMoveEnd c r x).log = s.log := rfl
@[simp] theorem State.noticeMoveEnd_tap (s : State) (c : Channel) (r : Option Reason) (x : Option Status) : (s.noticeMoveEnd c r x).tap = s.tap := rfl
@[simp] theorem State.noticeMoveEnd_perms (s : State) (c : Channel) (r : Option Reason) (x : Option Status) : (s.noticeMoveEnd c r x).perms = s.perms := rfl
@[simp] theorem State.noticeMoveEnd_priv (s : State) (c : Channel) (r : Option Reason) (x : Option Status) : (s.noticeMoveEnd c r x).priv = s.priv := rfl
@[simp] theorem State.noticeMoveEnd_store (s : State) (c : Channel) (r : Option Reason) (x : Option Status) : (s.noticeMoveEnd c r x).store = s.store := rfl
@[simp] theorem State.noticeMoveEnd_freeCount (s : State) (c : Channel) (r : Option Reason) (x : Option Status) : (s.noticeMoveEnd c r x).freeCount = s.freeCount := rfl
@[simp] theorem State.noticeMoveEnd_pending (s : State) (c : Channel) (r : Option Reason) (x : Option Status) : (s.noticeMoveEnd c r x).pending = s.pending := rfl
@[simp] theorem State.noticeMoveEnd_slice (s : State) (c : Channel) (r : Option Reason) (x : Option Status) (d : Channel) : (s.noticeMoveEnd c r x).slice d = s.slice d := rfl

@[simp] theorem State.noticeFault_power (s : State) (c : Channel) (k : Option FaultKind) : (s.noticeFault c k).power = s.power := rfl
@[simp] theorem State.noticeFault_timeBase (s : State) (c : Channel) (k : Option FaultKind) : (s.noticeFault c k).timeBase = s.timeBase := rfl
@[simp] theorem State.noticeFault_pins (s : State) (c : Channel) (k : Option FaultKind) : (s.noticeFault c k).pins = s.pins := rfl
@[simp] theorem State.noticeFault_ch (s : State) (c : Channel) (k : Option FaultKind) : (s.noticeFault c k).ch = s.ch := rfl
@[simp] theorem State.noticeFault_globals (s : State) (c : Channel) (k : Option FaultKind) : (s.noticeFault c k).globals = s.globals := rfl
@[simp] theorem State.noticeFault_queue (s : State) (c : Channel) (k : Option FaultKind) : (s.noticeFault c k).queue = s.queue := rfl
@[simp] theorem State.noticeFault_supply (s : State) (c : Channel) (k : Option FaultKind) : (s.noticeFault c k).supply = s.supply := rfl
@[simp] theorem State.noticeFault_motion (s : State) (c : Channel) (k : Option FaultKind) : (s.noticeFault c k).motion = s.motion := rfl
@[simp] theorem State.noticeFault_vehicle (s : State) (c : Channel) (k : Option FaultKind) : (s.noticeFault c k).vehicle = s.vehicle := rfl
@[simp] theorem State.noticeFault_log (s : State) (c : Channel) (k : Option FaultKind) : (s.noticeFault c k).log = s.log := rfl
@[simp] theorem State.noticeFault_tap (s : State) (c : Channel) (k : Option FaultKind) : (s.noticeFault c k).tap = s.tap := rfl
@[simp] theorem State.noticeFault_perms (s : State) (c : Channel) (k : Option FaultKind) : (s.noticeFault c k).perms = s.perms := rfl
@[simp] theorem State.noticeFault_priv (s : State) (c : Channel) (k : Option FaultKind) : (s.noticeFault c k).priv = s.priv := rfl
@[simp] theorem State.noticeFault_store (s : State) (c : Channel) (k : Option FaultKind) : (s.noticeFault c k).store = s.store := rfl
@[simp] theorem State.noticeFault_freeCount (s : State) (c : Channel) (k : Option FaultKind) : (s.noticeFault c k).freeCount = s.freeCount := rfl
@[simp] theorem State.noticeFault_pending (s : State) (c : Channel) (k : Option FaultKind) : (s.noticeFault c k).pending = s.pending := rfl
@[simp] theorem State.noticeFault_slice (s : State) (c : Channel) (k : Option FaultKind) (d : Channel) : (s.noticeFault c k).slice d = s.slice d := rfl

@[simp] theorem State.noticeHeld_power (s : State) (c : Channel) (b : Bool) : (s.noticeHeld c b).power = s.power := by
  cases b <;> rfl
@[simp] theorem State.noticeHeld_timeBase (s : State) (c : Channel) (b : Bool) : (s.noticeHeld c b).timeBase = s.timeBase := by
  cases b <;> rfl
@[simp] theorem State.noticeHeld_pins (s : State) (c : Channel) (b : Bool) : (s.noticeHeld c b).pins = s.pins := by
  cases b <;> rfl
@[simp] theorem State.noticeHeld_ch (s : State) (c : Channel) (b : Bool) : (s.noticeHeld c b).ch = s.ch := by
  cases b <;> rfl
@[simp] theorem State.noticeHeld_globals (s : State) (c : Channel) (b : Bool) : (s.noticeHeld c b).globals = s.globals := by
  cases b <;> rfl
@[simp] theorem State.noticeHeld_queue (s : State) (c : Channel) (b : Bool) : (s.noticeHeld c b).queue = s.queue := by
  cases b <;> rfl
@[simp] theorem State.noticeHeld_supply (s : State) (c : Channel) (b : Bool) : (s.noticeHeld c b).supply = s.supply := by
  cases b <;> rfl
@[simp] theorem State.noticeHeld_motion (s : State) (c : Channel) (b : Bool) : (s.noticeHeld c b).motion = s.motion := by
  cases b <;> rfl
@[simp] theorem State.noticeHeld_vehicle (s : State) (c : Channel) (b : Bool) : (s.noticeHeld c b).vehicle = s.vehicle := by
  cases b <;> rfl
@[simp] theorem State.noticeHeld_log (s : State) (c : Channel) (b : Bool) : (s.noticeHeld c b).log = s.log := by
  cases b <;> rfl
@[simp] theorem State.noticeHeld_tap (s : State) (c : Channel) (b : Bool) : (s.noticeHeld c b).tap = s.tap := by
  cases b <;> rfl
@[simp] theorem State.noticeHeld_perms (s : State) (c : Channel) (b : Bool) : (s.noticeHeld c b).perms = s.perms := by
  cases b <;> rfl
@[simp] theorem State.noticeHeld_priv (s : State) (c : Channel) (b : Bool) : (s.noticeHeld c b).priv = s.priv := by
  cases b <;> rfl
@[simp] theorem State.noticeHeld_store (s : State) (c : Channel) (b : Bool) : (s.noticeHeld c b).store = s.store := by
  cases b <;> rfl
@[simp] theorem State.noticeHeld_freeCount (s : State) (c : Channel) (b : Bool) : (s.noticeHeld c b).freeCount = s.freeCount := by
  cases b <;> rfl
@[simp] theorem State.noticeHeld_pending (s : State) (c : Channel) (b : Bool) : (s.noticeHeld c b).pending = s.pending := by
  cases b <;> rfl
@[simp] theorem State.noticeHeld_slice (s : State) (c d : Channel) (b : Bool) : (s.noticeHeld c b).slice d = s.slice d := by
  cases b <;> rfl

@[simp] theorem State.noticeReferenced_power (s : State) (c : Channel) (b : Bool) : (s.noticeReferenced c b).power = s.power := by
  cases b <;> rfl
@[simp] theorem State.noticeReferenced_timeBase (s : State) (c : Channel) (b : Bool) : (s.noticeReferenced c b).timeBase = s.timeBase := by
  cases b <;> rfl
@[simp] theorem State.noticeReferenced_pins (s : State) (c : Channel) (b : Bool) : (s.noticeReferenced c b).pins = s.pins := by
  cases b <;> rfl
@[simp] theorem State.noticeReferenced_ch (s : State) (c : Channel) (b : Bool) : (s.noticeReferenced c b).ch = s.ch := by
  cases b <;> rfl
@[simp] theorem State.noticeReferenced_globals (s : State) (c : Channel) (b : Bool) : (s.noticeReferenced c b).globals = s.globals := by
  cases b <;> rfl
@[simp] theorem State.noticeReferenced_queue (s : State) (c : Channel) (b : Bool) : (s.noticeReferenced c b).queue = s.queue := by
  cases b <;> rfl
@[simp] theorem State.noticeReferenced_supply (s : State) (c : Channel) (b : Bool) : (s.noticeReferenced c b).supply = s.supply := by
  cases b <;> rfl
@[simp] theorem State.noticeReferenced_motion (s : State) (c : Channel) (b : Bool) : (s.noticeReferenced c b).motion = s.motion := by
  cases b <;> rfl
@[simp] theorem State.noticeReferenced_vehicle (s : State) (c : Channel) (b : Bool) : (s.noticeReferenced c b).vehicle = s.vehicle := by
  cases b <;> rfl
@[simp] theorem State.noticeReferenced_log (s : State) (c : Channel) (b : Bool) : (s.noticeReferenced c b).log = s.log := by
  cases b <;> rfl
@[simp] theorem State.noticeReferenced_tap (s : State) (c : Channel) (b : Bool) : (s.noticeReferenced c b).tap = s.tap := by
  cases b <;> rfl
@[simp] theorem State.noticeReferenced_perms (s : State) (c : Channel) (b : Bool) : (s.noticeReferenced c b).perms = s.perms := by
  cases b <;> rfl
@[simp] theorem State.noticeReferenced_priv (s : State) (c : Channel) (b : Bool) : (s.noticeReferenced c b).priv = s.priv := by
  cases b <;> rfl
@[simp] theorem State.noticeReferenced_store (s : State) (c : Channel) (b : Bool) : (s.noticeReferenced c b).store = s.store := by
  cases b <;> rfl
@[simp] theorem State.noticeReferenced_freeCount (s : State) (c : Channel) (b : Bool) : (s.noticeReferenced c b).freeCount = s.freeCount := by
  cases b <;> rfl
@[simp] theorem State.noticeReferenced_pending (s : State) (c : Channel) (b : Bool) : (s.noticeReferenced c b).pending = s.pending := by
  cases b <;> rfl
@[simp] theorem State.noticeReferenced_slice (s : State) (c d : Channel) (b : Bool) : (s.noticeReferenced c b).slice d = s.slice d := by
  cases b <;> rfl

/-! ### A submission changes the log and the body link only -/

@[simp] theorem State.submit_power (s : State) (r : Incident) : (s.submit r).power = s.power := rfl
@[simp] theorem State.submit_timeBase (s : State) (r : Incident) : (s.submit r).timeBase = s.timeBase := rfl
@[simp] theorem State.submit_pins (s : State) (r : Incident) : (s.submit r).pins = s.pins := rfl
@[simp] theorem State.submit_ch (s : State) (r : Incident) : (s.submit r).ch = s.ch := rfl
@[simp] theorem State.submit_globals (s : State) (r : Incident) : (s.submit r).globals = s.globals := rfl
@[simp] theorem State.submit_queue (s : State) (r : Incident) : (s.submit r).queue = s.queue := rfl
@[simp] theorem State.submit_supply (s : State) (r : Incident) : (s.submit r).supply = s.supply := rfl
@[simp] theorem State.submit_motion (s : State) (r : Incident) : (s.submit r).motion = s.motion := rfl
@[simp] theorem State.submit_vehicle (s : State) (r : Incident) : (s.submit r).vehicle = s.vehicle := rfl
@[simp] theorem State.submit_tap (s : State) (r : Incident) : (s.submit r).tap = s.tap := rfl
@[simp] theorem State.submit_perms (s : State) (r : Incident) : (s.submit r).perms = s.perms := rfl
@[simp] theorem State.submit_priv (s : State) (r : Incident) : (s.submit r).priv = s.priv := rfl
@[simp] theorem State.submit_store (s : State) (r : Incident) : (s.submit r).store = s.store := rfl
@[simp] theorem State.submit_freeCount (s : State) (r : Incident) : (s.submit r).freeCount = s.freeCount := rfl
@[simp] theorem State.submit_pending (s : State) (r : Incident) : (s.submit r).pending = s.pending := rfl
@[simp] theorem State.submit_slice (s : State) (r : Incident) (c : Channel) : (s.submit r).slice c = s.slice c := rfl

/-- The log after a submission (R120). -/
theorem State.submit_log (s : State) (r : Incident) :
    (s.submit r).log =
      { s.log with
        ring := ringPush s.log.ring { r with tag := s.log.nextTag, time := s.log.clock }
        nextTag := s.log.nextTag + 1 } := rfl

/-! ### Counting an event changes one counter of one channel only -/

@[simp] theorem State.countEvents_power (s : State) (c : Channel) (e : CounterChoice) (n : Nat) : (s.countEvents c e n).power = s.power := rfl
@[simp] theorem State.countEvent_power (s : State) (c : Channel) (e : CounterChoice) : (s.countEvent c e).power = s.power := rfl
@[simp] theorem State.countEvents_timeBase (s : State) (c : Channel) (e : CounterChoice) (n : Nat) : (s.countEvents c e n).timeBase = s.timeBase := rfl
@[simp] theorem State.countEvent_timeBase (s : State) (c : Channel) (e : CounterChoice) : (s.countEvent c e).timeBase = s.timeBase := rfl
@[simp] theorem State.countEvents_pins (s : State) (c : Channel) (e : CounterChoice) (n : Nat) : (s.countEvents c e n).pins = s.pins := rfl
@[simp] theorem State.countEvent_pins (s : State) (c : Channel) (e : CounterChoice) : (s.countEvent c e).pins = s.pins := rfl
@[simp] theorem State.countEvents_globals (s : State) (c : Channel) (e : CounterChoice) (n : Nat) : (s.countEvents c e n).globals = s.globals := rfl
@[simp] theorem State.countEvent_globals (s : State) (c : Channel) (e : CounterChoice) : (s.countEvent c e).globals = s.globals := rfl
@[simp] theorem State.countEvents_queue (s : State) (c : Channel) (e : CounterChoice) (n : Nat) : (s.countEvents c e n).queue = s.queue := rfl
@[simp] theorem State.countEvent_queue (s : State) (c : Channel) (e : CounterChoice) : (s.countEvent c e).queue = s.queue := rfl
@[simp] theorem State.countEvents_supply (s : State) (c : Channel) (e : CounterChoice) (n : Nat) : (s.countEvents c e n).supply = s.supply := rfl
@[simp] theorem State.countEvent_supply (s : State) (c : Channel) (e : CounterChoice) : (s.countEvent c e).supply = s.supply := rfl
@[simp] theorem State.countEvents_motion (s : State) (c : Channel) (e : CounterChoice) (n : Nat) : (s.countEvents c e n).motion = s.motion := rfl
@[simp] theorem State.countEvent_motion (s : State) (c : Channel) (e : CounterChoice) : (s.countEvent c e).motion = s.motion := rfl
@[simp] theorem State.countEvents_vehicle (s : State) (c : Channel) (e : CounterChoice) (n : Nat) : (s.countEvents c e n).vehicle = s.vehicle := rfl
@[simp] theorem State.countEvent_vehicle (s : State) (c : Channel) (e : CounterChoice) : (s.countEvent c e).vehicle = s.vehicle := rfl
@[simp] theorem State.countEvents_log (s : State) (c : Channel) (e : CounterChoice) (n : Nat) : (s.countEvents c e n).log = s.log := rfl
@[simp] theorem State.countEvent_log (s : State) (c : Channel) (e : CounterChoice) : (s.countEvent c e).log = s.log := rfl
@[simp] theorem State.countEvents_tap (s : State) (c : Channel) (e : CounterChoice) (n : Nat) : (s.countEvents c e n).tap = s.tap := rfl
@[simp] theorem State.countEvent_tap (s : State) (c : Channel) (e : CounterChoice) : (s.countEvent c e).tap = s.tap := rfl
@[simp] theorem State.countEvents_perms (s : State) (c : Channel) (e : CounterChoice) (n : Nat) : (s.countEvents c e n).perms = s.perms := rfl
@[simp] theorem State.countEvent_perms (s : State) (c : Channel) (e : CounterChoice) : (s.countEvent c e).perms = s.perms := rfl
@[simp] theorem State.countEvents_priv (s : State) (c : Channel) (e : CounterChoice) (n : Nat) : (s.countEvents c e n).priv = s.priv := rfl
@[simp] theorem State.countEvent_priv (s : State) (c : Channel) (e : CounterChoice) : (s.countEvent c e).priv = s.priv := rfl
@[simp] theorem State.countEvents_link (s : State) (c : Channel) (e : CounterChoice) (n : Nat) : (s.countEvents c e n).link = s.link := rfl
@[simp] theorem State.countEvent_link (s : State) (c : Channel) (e : CounterChoice) : (s.countEvent c e).link = s.link := rfl
@[simp] theorem State.countEvents_store (s : State) (c : Channel) (e : CounterChoice) (n : Nat) : (s.countEvents c e n).store = s.store := rfl
@[simp] theorem State.countEvent_store (s : State) (c : Channel) (e : CounterChoice) : (s.countEvent c e).store = s.store := rfl
@[simp] theorem State.countEvents_freeCount (s : State) (c : Channel) (e : CounterChoice) (n : Nat) : (s.countEvents c e n).freeCount = s.freeCount := rfl
@[simp] theorem State.countEvent_freeCount (s : State) (c : Channel) (e : CounterChoice) : (s.countEvent c e).freeCount = s.freeCount := rfl
@[simp] theorem State.countEvents_pending (s : State) (c : Channel) (e : CounterChoice) (n : Nat) : (s.countEvents c e n).pending = s.pending := rfl
@[simp] theorem State.countEvent_pending (s : State) (c : Channel) (e : CounterChoice) : (s.countEvent c e).pending = s.pending := rfl
@[simp] theorem State.countEvents_cfg (s : State) (c d : Channel) (e : CounterChoice) (n : Nat) :
    ((s.countEvents c e n).slice d).cfg = (s.slice d).cfg := State.modCtr_cfg s c d _
@[simp] theorem State.countEvent_cfg (s : State) (c d : Channel) (e : CounterChoice) :
    ((s.countEvent c e).slice d).cfg = (s.slice d).cfg := State.modCtr_cfg s c d _
@[simp] theorem State.countEvents_trk (s : State) (c d : Channel) (e : CounterChoice) (n : Nat) :
    ((s.countEvents c e n).slice d).trk = (s.slice d).trk := State.modCtr_trk s c d _
@[simp] theorem State.countEvent_trk (s : State) (c d : Channel) (e : CounterChoice) :
    ((s.countEvent c e).slice d).trk = (s.slice d).trk := State.modCtr_trk s c d _
@[simp] theorem State.countEvents_ctl (s : State) (c d : Channel) (e : CounterChoice) (n : Nat) :
    ((s.countEvents c e n).slice d).ctl = (s.slice d).ctl := State.modCtr_ctl s c d _
@[simp] theorem State.countEvent_ctl (s : State) (c d : Channel) (e : CounterChoice) :
    ((s.countEvent c e).slice d).ctl = (s.slice d).ctl := State.modCtr_ctl s c d _
@[simp] theorem State.countEvents_drv (s : State) (c d : Channel) (e : CounterChoice) (n : Nat) :
    ((s.countEvents c e n).slice d).drv = (s.slice d).drv := State.modCtr_drv s c d _
@[simp] theorem State.countEvent_drv (s : State) (c d : Channel) (e : CounterChoice) :
    ((s.countEvent c e).slice d).drv = (s.slice d).drv := State.modCtr_drv s c d _
@[simp] theorem State.countEvents_arb (s : State) (c d : Channel) (e : CounterChoice) (n : Nat) :
    ((s.countEvents c e n).slice d).arb = (s.slice d).arb := State.modCtr_arb s c d _
@[simp] theorem State.countEvent_arb (s : State) (c d : Channel) (e : CounterChoice) :
    ((s.countEvent c e).slice d).arb = (s.slice d).arb := State.modCtr_arb s c d _
@[simp] theorem State.countEvents_est (s : State) (c d : Channel) (e : CounterChoice) (n : Nat) :
    ((s.countEvents c e n).slice d).est = (s.slice d).est := State.modCtr_est s c d _
@[simp] theorem State.countEvent_est (s : State) (c d : Channel) (e : CounterChoice) :
    ((s.countEvent c e).slice d).est = (s.slice d).est := State.modCtr_est s c d _
@[simp] theorem State.countEvents_vdu (s : State) (c d : Channel) (e : CounterChoice) (n : Nat) :
    ((s.countEvents c e n).slice d).vdu = (s.slice d).vdu := State.modCtr_vdu s c d _
@[simp] theorem State.countEvent_vdu (s : State) (c d : Channel) (e : CounterChoice) :
    ((s.countEvent c e).slice d).vdu = (s.slice d).vdu := State.modCtr_vdu s c d _
@[simp] theorem State.countEvents_prf (s : State) (c d : Channel) (e : CounterChoice) (n : Nat) :
    ((s.countEvents c e n).slice d).prf = (s.slice d).prf := State.modCtr_prf s c d _
@[simp] theorem State.countEvent_prf (s : State) (c d : Channel) (e : CounterChoice) :
    ((s.countEvent c e).slice d).prf = (s.slice d).prf := State.modCtr_prf s c d _
theorem State.countEvents_slice_ne (s : State) {c d : Channel} (e : CounterChoice) (n : Nat) (h : d ≠ c) :
    (s.countEvents c e n).slice d = s.slice d := State.slice_modCtr_ne s _ h
theorem State.countEvent_slice_ne (s : State) {c d : Channel} (e : CounterChoice) (h : d ≠ c) :
    (s.countEvent c e).slice d = s.slice d := State.slice_modCtr_ne s _ h

/-! ### A grant or a valid count reported to the settings store changes the store only -/

@[simp] theorem State.noteMovement_power (s : State) : s.noteMovement.power = s.power := by
  unfold State.noteMovement; split <;> rfl
@[simp] theorem State.noteMovement_timeBase (s : State) : s.noteMovement.timeBase = s.timeBase := by
  unfold State.noteMovement; split <;> rfl
@[simp] theorem State.noteMovement_pins (s : State) : s.noteMovement.pins = s.pins := by
  unfold State.noteMovement; split <;> rfl
@[simp] theorem State.noteMovement_ch (s : State) : s.noteMovement.ch = s.ch := by
  unfold State.noteMovement; split <;> rfl
@[simp] theorem State.noteMovement_globals (s : State) : s.noteMovement.globals = s.globals := by
  unfold State.noteMovement; split <;> rfl
@[simp] theorem State.noteMovement_queue (s : State) : s.noteMovement.queue = s.queue := by
  unfold State.noteMovement; split <;> rfl
@[simp] theorem State.noteMovement_supply (s : State) : s.noteMovement.supply = s.supply := by
  unfold State.noteMovement; split <;> rfl
@[simp] theorem State.noteMovement_motion (s : State) : s.noteMovement.motion = s.motion := by
  unfold State.noteMovement; split <;> rfl
@[simp] theorem State.noteMovement_vehicle (s : State) : s.noteMovement.vehicle = s.vehicle := by
  unfold State.noteMovement; split <;> rfl
@[simp] theorem State.noteMovement_log (s : State) : s.noteMovement.log = s.log := by
  unfold State.noteMovement; split <;> rfl
@[simp] theorem State.noteMovement_tap (s : State) : s.noteMovement.tap = s.tap := by
  unfold State.noteMovement; split <;> rfl
@[simp] theorem State.noteMovement_perms (s : State) : s.noteMovement.perms = s.perms := by
  unfold State.noteMovement; split <;> rfl
@[simp] theorem State.noteMovement_priv (s : State) : s.noteMovement.priv = s.priv := by
  unfold State.noteMovement; split <;> rfl
@[simp] theorem State.noteMovement_link (s : State) : s.noteMovement.link = s.link := by
  unfold State.noteMovement; split <;> rfl
@[simp] theorem State.noteMovement_freeCount (s : State) : s.noteMovement.freeCount = s.freeCount := by
  unfold State.noteMovement; split <;> rfl
@[simp] theorem State.noteMovement_pending (s : State) : s.noteMovement.pending = s.pending := by
  unfold State.noteMovement; split <;> rfl
@[simp] theorem State.noteMovement_slice (s : State) (c : Channel) : s.noteMovement.slice c = s.slice c := by
  unfold State.noteMovement; split <;> rfl

theorem State.noteMovement_store (s : State) :
    s.noteMovement.store = { s.store with clearDue := s.store.clearDue || s.store.markStanding } := by
  unfold State.noteMovement
  split <;> rename_i h
  · simp [h]
  · cases hs : s.store with
    | mk l o m d i => simp_all

/-! ### Joining a queue (R151) and the transmitter's choice (R152) -/

/-- A joined report stands at the tail of its queue, or is discarded and counted. -/
theorem Link.join_cases (u : Bool) (r : Report) (l : Link) :
    (u = true ∧ l.urgent.length < urgentCapacity ∧ l.join u r = { l with urgent := l.urgent ++ [r] }) ∨
    (u = true ∧ urgentCapacity ≤ l.urgent.length ∧
      l.join u r = { l with counters := { l.counters with urgentLost := l.counters.urgentLost + 1 } }) ∨
    (u = false ∧ l.routine.length < routineCapacity ∧ l.join u r = { l with routine := l.routine ++ [r] }) ∨
    (u = false ∧ routineCapacity ≤ l.routine.length ∧
      l.join u r = { l with counters := { l.counters with routineLost := l.counters.routineLost + 1 } }) := by
  cases u
  · by_cases h : l.routine.length < routineCapacity
    · exact .inr (.inr (.inl ⟨rfl, h, by simp [Link.join, h]⟩))
    · exact .inr (.inr (.inr ⟨rfl, by omega, by simp [Link.join, h]⟩))
  · by_cases h : l.urgent.length < urgentCapacity
    · exact .inl ⟨rfl, h, by simp [Link.join, h]⟩
    · exact .inr (.inl ⟨rfl, by omega, by simp [Link.join, h]⟩)

/-- The transmitter's choice: nothing while it sends or has nothing to send, otherwise the head of one queue. -/
theorem Link.choose_cases (w : Weight) (l : Link) :
    (l.sending ≠ none ∧ l.choose w = l) ∨
    (l.sending = none ∧ l.urgent = [] ∧ l.routine = [] ∧ l.choose w = l) ∨
    (∃ u us, l.sending = none ∧ l.urgent = u :: us ∧ (l.routine = [] ∨ belowWeight w l.urgentRun = true) ∧
      l.choose w = { l with urgent := us, sending := some u, urgentRun := min 255 (l.urgentRun + 1) }) ∨
    (∃ r rs, l.sending = none ∧ l.routine = r :: rs ∧ (l.urgent = [] ∨ belowWeight w l.urgentRun = false) ∧
      l.choose w = { l with routine := rs, sending := some r, urgentRun := 0 }) := by
  unfold Link.choose
  cases hs : l.sending with
  | some x => exact .inl ⟨by simp, rfl⟩
  | none =>
    cases hu : l.urgent with
    | nil =>
      cases hr : l.routine with
      | nil => exact .inr (.inl ⟨rfl, rfl, rfl, by simp⟩)
      | cons r rs => exact .inr (.inr (.inr ⟨r, rs, rfl, rfl, .inl rfl, rfl⟩))
    | cons u us =>
      cases hr : l.routine with
      | nil => exact .inr (.inr (.inl ⟨u, us, rfl, rfl, .inl rfl, rfl⟩))
      | cons r rs =>
        by_cases hb : belowWeight w l.urgentRun = true
        · exact .inr (.inr (.inl ⟨u, us, rfl, rfl, .inr hb, by simp [hb]⟩))
        · exact .inr (.inr (.inr ⟨r, rs, rfl, rfl, .inr (by simpa using hb), by simp [hb]⟩))

/-- The ring after a push: at most one record longer, with the new record at its end. -/
theorem ringPush_cases (ring : List Incident) (r : Incident) :
    (ring.length < 32 ∧ ringPush ring r = ring ++ [r]) ∨ (32 ≤ ring.length ∧ ringPush ring r = ring.drop 1 ++ [r]) := by
  unfold ringPush
  by_cases h : ring.length < 32
  · exact .inl ⟨h, by simp; omega⟩
  · refine .inr ⟨by omega, ?_⟩
    cases ring with
    | nil => simp at h
    | cons x xs => simp at h ⊢; omega

end Sys2Proof.Machine
end

