-- ==== Sys2Proof/Laws/Arbiter.lean ====
section
/-! SUPPORT. What one examination of the start queue answers, and everything a scan can do (R54, R55). -/

namespace Sys2Proof.Machine

/-! ### One examination (R55) -/

/-- The entries that stay and the channels granted are together the channels of the queue. -/
theorem scanQueue_perm (f : Channel → Nat) (budget : Nat) (q : List QueueEntry) :
    ∀ sum, ((scanQueue f budget sum q).1.map QueueEntry.channel ++ (scanQueue f budget sum q).2).Perm
      (q.map QueueEntry.channel) := by
  induction q with
  | nil => intro sum; simp [scanQueue]
  | cons e rest ih =>
    intro sum
    unfold scanQueue
    split
    · exact List.perm_middle.trans (List.Perm.cons _ (ih _))
    · split
      · simp
      · have h := (ih sum).cons e.channel
        dsimp only
        split <;> simpa using h

/-- The charges granted fit into the budget. -/
theorem scanQueue_fits (f : Channel → Nat) (budget : Nat) (q : List QueueEntry) :
    ∀ sum, sum ≤ budget → sum + ((scanQueue f budget sum q).2.map f).sum ≤ budget := by
  induction q with
  | nil => intro sum h; simpa [scanQueue] using h
  | cons e rest ih =>
    intro sum h
    unfold scanQueue
    split
    · rename_i hf
      have := ih (sum + f e.channel) hf
      simp only [List.map_cons, List.sum_cons]; omega
    · split
      · simpa using h
      · simpa using ih sum h

/-- No pass count passes 3. -/
theorem scanQueue_passes (f : Channel → Nat) (budget : Nat) (q : List QueueEntry) (hq : ∀ e ∈ q, e.passes ≤ 3) :
    ∀ sum, ∀ e ∈ (scanQueue f budget sum q).1, e.passes ≤ 3 := by
  induction q with
  | nil => intro sum e h; simp [scanQueue] at h
  | cons x rest ih =>
    have hr : ∀ e ∈ rest, e.passes ≤ 3 := fun e h => hq e (List.mem_cons_of_mem _ h)
    intro sum e
    unfold scanQueue
    split
    · exact ih hr _ e
    · split
      · exact hq e
      · rename_i hp
        intro h
        rcases List.mem_cons.mp h with h | h
        · subst h
          split
          · omega
          · simp; omega
        · exact ih hr sum e h

/-! ### What a scan leaves alone -/

/-- The controller of a channel across a scan: as it was, or its waiting move has started (R22). -/
def ctlAfterScan (a b : Controller) : Prop :=
  b = a ∨
    ∃ m, a.motion = .waiting ∧ a.move = some m ∧
      b = { a with motion := (match m.dir with | .closing => .closing | .opening => .opening), recovery := 0 }

/-- A slice across a scan: its settings, tracker and learned profile as they were. -/
def sliceAfterScan (a b : Slice) : Prop :=
  b.cfg = a.cfg ∧ b.trk = a.trk ∧ b.prf.zones = a.prf.zones ∧ b.prf.runCounter = a.prf.runCounter ∧
  b.prf.lastRun = a.prf.lastRun ∧ b.ctr.b = a.ctr.b ∧ b.ctr.c = a.ctr.c ∧ ctlAfterScan a.ctl b.ctl ∧
  (b.ctl = a.ctl → b.drv = a.drv ∧ b.est = a.est ∧ b.vdu = a.vdu ∧ b.prf = a.prf ∧ b.ctr = a.ctr)

/-- Everything a scan can do: grants change slices, the queue, and clear-due of the store. -/
def afterScan (s t : State) : Prop :=
  t = { s with ch := t.ch, queue := t.queue, store := t.store } ∧
  t.store = { s.store with clearDue := t.store.clearDue } ∧
  (s.store.clearDue = true → t.store.clearDue = true) ∧
  (t.store.clearDue = true → s.store.clearDue = true ∨ s.store.markStanding = true) ∧
  ∀ c, sliceAfterScan (s.slice c) (t.slice c)

theorem sliceAfterScan_refl (a : Slice) : sliceAfterScan a a :=
  ⟨rfl, rfl, rfl, rfl, rfl, rfl, rfl, .inl rfl, fun _ => ⟨rfl, rfl, rfl, rfl, rfl⟩⟩

theorem ctlAfterScan_waiting {a b : Controller} (h : ctlAfterScan a b) (hb : b.motion = .waiting) : b = a := by
  rcases h with h | ⟨m, -, -, h⟩
  · exact h
  · exfalso; rw [h] at hb; cases hd : m.dir <;> simp [hd] at hb

theorem sliceAfterScan_trans {a b c : Slice} (h : sliceAfterScan a b) (k : sliceAfterScan b c) : sliceAfterScan a c := by
  obtain ⟨h1, h2, h3, h4, h5, h6, h7, h8, h9⟩ := h
  obtain ⟨k1, k2, k3, k4, k5, k6, k7, k8, k9⟩ := k
  refine ⟨k1.trans h1, k2.trans h2, k3.trans h3, k4.trans h4, k5.trans h5, k6.trans h6, k7.trans h7, ?_, ?_⟩
  · rcases k8 with k8 | ⟨m, kw, km, k8⟩
    · rw [k8]; exact h8
    · have hb := ctlAfterScan_waiting h8 kw
      rw [hb] at kw km k8
      exact .inr ⟨m, kw, km, k8⟩
  · intro hc
    have hba : b.ctl = a.ctl := by
      rcases k8 with k8 | ⟨m, kw, km, k8⟩
      · rw [← hc, ← k8]
      · exact ctlAfterScan_waiting h8 kw
    obtain ⟨x1, x2, x3, x4, x5⟩ := h9 hba
    obtain ⟨y1, y2, y3, y4, y5⟩ := k9 (hc.trans hba.symm)
    exact ⟨y1.trans x1, y2.trans x2, y3.trans x3, y4.trans x4, y5.trans x5⟩

theorem afterScan_refl (s : State) : afterScan s s :=
  ⟨rfl, rfl, id, .inl, fun _ => sliceAfterScan_refl _⟩

theorem afterScan_trans {s t u : State} (h : afterScan s t) (k : afterScan t u) : afterScan s u := by
  obtain ⟨h1, h2, h3, h4, h5⟩ := h
  obtain ⟨k1, k2, k3, k4, k5⟩ := k
  refine ⟨?_, ?_, fun x => k3 (h3 x), fun x => ?_, fun c => sliceAfterScan_trans (h5 c) (k5 c)⟩
  · rw [k1, h1]
  · rw [k2, h2]
  · rcases k4 x with y | y
    · exact h4 y
    · rw [h2] at y; exact .inr y

/-- A slice update that a scan may make, as a step of the whole state. -/
theorem afterScan_modSlice (s : State) (c : Channel) (f : Slice → Slice) (h : sliceAfterScan (s.slice c) (f (s.slice c))) :
    afterScan s (s.modSlice c f) := by
  refine ⟨rfl, rfl, id, .inl, fun d => ?_⟩
  rw [State.slice_modSlice]
  split
  · rename_i e; subst e; exact h
  · exact sliceAfterScan_refl _

theorem afterScan_modArb (s : State) (c : Channel) (f : Grant → Grant) : afterScan s (s.modArb c f) :=
  afterScan_modSlice s c _ ⟨rfl, rfl, rfl, rfl, rfl, rfl, rfl, .inl rfl, fun _ => ⟨rfl, rfl, rfl, rfl, rfl⟩⟩

theorem afterScan_noteMovement (s : State) : afterScan s s.noteMovement := by
  refine ⟨?_, ?_, ?_, ?_, fun c => by rw [State.noteMovement_slice]; exact sliceAfterScan_refl _⟩
  · unfold State.noteMovement; split <;> rfl
  · rw [State.noteMovement_store]
  · intro h; rw [State.noteMovement_store]; simp [h]
  · intro h; rw [State.noteMovement_store] at h; simpa using h

theorem afterScan_recordGrant (s : State) (c : Channel) : afterScan s (s.recordGrant c) :=
  afterScan_trans (afterScan_modArb s c _) (afterScan_noteMovement _)

theorem afterScan_startMove (s : State) (c : Channel) (m : Move) (hw : (s.slice c).ctl.motion = .waiting)
    (hm : (s.slice c).ctl.move = some m) : afterScan s (s.startMove c m) := by
  have key : ∀ t : State, t = { s with ch := t.ch } → (∀ d, d ≠ c → t.slice d = s.slice d) →
      sliceAfterScan (s.slice c) (t.slice c) → afterScan s t := by
    intro t h1 h2 h3
    have hs : t.store = s.store := by rw [h1]
    have hq : t.queue = s.queue := by rw [h1]
    refine ⟨?_, by rw [hs], by rw [hs]; exact id, by rw [hs]; exact .inl, fun d => ?_⟩
    · rw [hs, hq]; exact h1
    · by_cases e : d = c
      · subst e; exact h3
      · rw [h2 d e]; exact sliceAfterScan_refl _
  cases hd : m.dir with
  | closing =>
    apply key
    · simp [State.startMove, hd]; rfl
    · intro d e
      simp [State.startMove, State.startPhase, hd, State.countEvent, State.countEvents, State.slice_modCtr_ne _ _ e,
        State.slice_modPrf_ne _ _ e, State.slice_modVdu_ne _ _ e, State.slice_modEst_ne _ _ e, State.slice_modDrv_ne _ _ e,
        State.slice_modCtl_ne _ _ e]
    · simp [State.startMove, State.startPhase, hd, State.countEvent, State.countEvents, sliceAfterScan]
      exact ⟨.inr ⟨m, hw, hm, by simp [hd]⟩, fun h => by
        have := congrArg Controller.motion h
        simp [hw] at this⟩
  | opening =>
    apply key
    · simp [State.startMove, hd]; rfl
    · intro d e
      simp [State.startMove, State.startPhase, hd, State.countEvent, State.countEvents, State.slice_modCtr_ne _ _ e,
        State.slice_modVdu_ne _ _ e, State.slice_modEst_ne _ _ e, State.slice_modDrv_ne _ _ e, State.slice_modCtl_ne _ _ e]
    · simp [State.startMove, State.startPhase, hd, State.countEvent, State.countEvents, sliceAfterScan]
      exact ⟨.inr ⟨m, hw, hm, by simp [hd]⟩, fun h => by
        have := congrArg Controller.motion h
        simp [hw] at this⟩

theorem afterScan_deliver (s : State) (c : Channel) : afterScan s (s.deliver c).1 := by
  unfold State.deliver
  dsimp only
  split
  · rename_i m hw hm
    split
    · exact afterScan_trans (afterScan_startMove s c m hw hm) (afterScan_modArb _ c _)
    · exact afterScan_startMove s c m hw hm
  · exact afterScan_modArb s c _

theorem afterScan_queue (s : State) (q : List QueueEntry) : afterScan s { s with queue := q } :=
  ⟨rfl, rfl, id, .inl, fun _ => sliceAfterScan_refl _⟩

theorem afterScan_foldl {α : Type} (f : State → α → State) (hf : ∀ s a, afterScan s (f s a)) (l : List α) :
    ∀ s, afterScan s (l.foldl f s) := by
  induction l with
  | nil => intro s; exact afterScan_refl s
  | cons a l ih => intro s; exact afterScan_trans (hf s a) (ih _)

theorem afterScan_scanFuel (n : Nat) : ∀ s : State, afterScan s (State.scanFuel n s) := by
  induction n with
  | zero => intro s; exact afterScan_refl s
  | succ n ih =>
    intro s
    unfold State.scanFuel
    split
    · exact afterScan_refl s
    · dsimp only
      refine afterScan_trans (afterScan_queue s _) (afterScan_trans (afterScan_foldl _ afterScan_recordGrant _ _)
        (afterScan_foldl _ (fun t c => ?_) _ _))
      split
      · exact afterScan_trans (afterScan_deliver t c) (ih _)
      · exact afterScan_deliver t c

/-- Everything a scan can do. -/
theorem State.scan_spec (s : State) : afterScan s s.scan := afterScan_scanFuel _ s

/-- Nothing is granted while the sag flag is set (R55). -/
theorem State.scan_sag (s : State) (h : s.supply.sag = true) : s.scan = s := by
  simp [State.scan, State.scanFuel, h]

/-- Nothing is done on an empty queue. -/
theorem State.scan_empty (s : State) (h : s.queue = []) : s.scan = s := by
  simp [State.scan, State.scanFuel, h, scanQueue]
  intro _
  cases s; simp_all

theorem State.joinQueue_spec (s : State) (c : Channel) : afterScan s (s.joinQueue c) := by
  unfold State.joinQueue
  split
  · exact afterScan_refl s
  · exact afterScan_trans (afterScan_queue s _) (State.scan_spec _)

theorem State.leaveQueue_spec (s : State) (c : Channel) : afterScan s (s.leaveQueue c) := by
  unfold State.leaveQueue
  split
  · exact afterScan_trans (afterScan_queue s _) (State.scan_spec _)
  · exact afterScan_refl s

theorem State.releaseGrant_spec (s : State) (c : Channel) : afterScan s (s.releaseGrant c) := by
  unfold State.releaseGrant
  split
  · exact afterScan_trans (afterScan_modArb s c _) (State.scan_spec _)
  · exact afterScan_refl s

theorem State.lowerCharge_spec (s : State) (c : Channel) : afterScan s (s.lowerCharge c) := by
  unfold State.lowerCharge
  split
  · exact afterScan_trans (afterScan_modArb s c _) (State.scan_spec _)
  · exact afterScan_refl s

end Sys2Proof.Machine
end

