-- ==== Sys2Proof/Laws/Edge.lean ====
section
/-! SUPPORT. Where a completed sample goes: what the counters, the tap and the end of start blanking can do with it (R68, R126, R131). -/

namespace Sys2Proof.Machine

/-- Counters after one event of a choice. -/
def Counters.counted (k : Counters) (ev : CounterChoice) : Counters :=
  match ev with
  | .closeRuns | .openRuns | .bandReversals | .stallReversals => { k with a := k.a.count ev 1 }
  | .samples | .invalidSamples | .watchSamples | .tripSamples => { k with b := k.b.count ev 1 }
  | .hallInvalid | .disturbedSamples | .zoneUpdates | .thermalRefusals => { k with c := k.c.count ev 1 }

/-- One event changes one slice, and there only the counters. -/
theorem State.countEvent_eq (s : State) (c : Channel) (ev : CounterChoice) :
    s.countEvent c ev = s.modCtr c fun k => k.counted ev := by
  cases ev <;> rfl

@[simp] theorem State.slice_countEvent_same (s : State) (c : Channel) (ev : CounterChoice) :
    (s.countEvent c ev).slice c = { s.slice c with ctr := (s.slice c).ctr.counted ev } := by
  rw [State.countEvent_eq, State.modCtr, State.slice_modSlice_same]

/-- A counted sample changes the counters of its channel and nothing else. -/
theorem State.countSample_spec (s : State) (x : Sample) :
    s.countSample x = { s with ch := (s.countSample x).ch } ∧
    (∀ d : Channel, d ≠ x.channel → (s.countSample x).slice d = s.slice d) ∧
    (s.countSample x).slice x.channel = { s.slice x.channel with ctr := ((s.countSample x).slice x.channel).ctr } := by
  unfold State.countSample
  cases x.valid <;> cases x.cls <;> cases x.disturbed <;>
    exact ⟨rfl, fun d hd => by simp [State.countEvent_eq, State.slice_modCtr_ne _ _ hd], by simp⟩

/-- A sample offered to the tap changes the tap and the body link and nothing else. -/
theorem State.tapSample_spec (s : State) (x : Sample) :
    s.tapSample x = { s with tap := (s.tapSample x).tap, link := (s.tapSample x).link } := by
  unfold State.tapSample
  split
  · split <;> rfl
  · rfl

/-- The end of start blanking at a sample stops the blanking timer, lowers a charge, and is otherwise a scan. -/
theorem State.blankingAtSample_spec (s : State) (c : Channel) :
    s.blankingAtSample c = s ∨
    afterScan (s.modEst c fun e => { e with blankTimer := none }) (s.blankingAtSample c) := by
  unfold State.blankingAtSample
  simp only
  split
  · exact .inr (State.lowerCharge_spec _ c)
  · exact .inl rfl

end Sys2Proof.Machine
end

