-- ==== Sys2Proof/Laws/Line.lean ====
section
/-! SUPPORT. What the lines of the body link carry (R141, R152, R153): the level of LTX, the levels of a byte and the command they come
to at the other end. -/

namespace Sys2Proof.Machine

@[simp] theorem byteLevels_length (b : Byte) : (byteLevels b).length = 10 := rfl

/-- A byte sent as R141 gives it is received as that byte. -/
theorem receivedAs_byteLevels (b : Byte) : receivedAs (byteLevels b) = some (.receiveByte b) := by
  have h : ∀ b : Byte, byteOfBits ((List.range 8).map fun i => b.getLsbD i) = b := by decide +kernel
  exact congrArg (fun x => some (Instr.receiveByte x)) (h b)

/-- While nothing is sent LTX rests at the high level. -/
theorem Link.ltx_idle (l : Link) (n : Nat) (h : l.sending = none) : l.ltx n = true := by simp [Link.ltx, h]

/-- A frame of a payload of n bytes is n + 4 bytes on the line (R152). -/
@[simp] theorem frameOf_length (kind : Byte) (p : List Byte) : (frameOf kind p).length = p.length + 4 := by
  simp [frameOf]

/-- Each byte is ten bit times. -/
@[simp] theorem flatMap_byteLevels_length (bs : List Byte) : (bs.flatMap byteLevels).length = bs.length * 10 := by
  induction bs with
  | nil => rfl
  | cons b bs ih => simp only [List.flatMap_cons, List.length_append, byteLevels_length, ih, List.length_cons]; omega

/-- A report occupies LTX for its send time (R152). -/
theorem reportLevels_length (r : Report) : (reportLevels r).length = sendMicros r := by
  have h : ∀ ps : List (List Byte), (ps.map (frameOf (reportCode r))).flatten.length * 10 =
      (ps.map fun p => (p.length + 4) * 10).sum := by
    intro ps
    induction ps with
    | nil => rfl
    | cons p ps ih => simp only [List.map_cons, List.flatten_cons, List.length_append, frameOf_length, List.sum_cons, ← ih]; omega
  rw [reportLevels, flatMap_byteLevels_length, reportBytes, h, sendMicros]

end Sys2Proof.Machine
end

