-- ==== Sys2Proof/Laws/Motion.lean ====
section
/-! SUPPORT. What the shared operations of the channel controller can do: the end of a phase, the closing of a run, the beginning of
braking (R27), and becoming IDLE (R28, R43). -/

namespace Sys2Proof.Machine

/-- `t` is `s` but for the slice of one channel. -/
def onlySlice (c : Channel) (s t : State) : Prop := t = { s with ch := t.ch } ∧ ∀ d, d ≠ c → t.slice d = s.slice d

theorem onlySlice_modSlice (s : State) (c : Channel) (f : Slice → Slice) : onlySlice c s (s.modSlice c f) :=
  ⟨rfl, fun _ h => State.slice_modSlice_ne s f h⟩

theorem onlySlice_refl (c : Channel) (s : State) : onlySlice c s s := ⟨rfl, fun _ _ => rfl⟩

theorem onlySlice_trans {c : Channel} {s t u : State} (h : onlySlice c s t) (k : onlySlice c t u) : onlySlice c s u :=
  ⟨by rw [k.1, h.1], fun d e => (k.2 d e).trans (h.2 d e)⟩

/-- The end of a drive phase (R66, R91, R98). -/
theorem State.endPhase_spec (s : State) (c : Channel) :
    onlySlice c s (s.endPhase c) ∧
    (s.endPhase c).slice c =
      { s.slice c with
        est := { (s.slice c).est with phase := none, blankTimer := none }
        vdu := (s.slice c).vdu.endPhase } :=
  ⟨onlySlice_trans (onlySlice_modSlice s c _) (onlySlice_modSlice _ c _), by simp [State.endPhase]⟩

/-- The start of a drive phase (R66, R98). -/
theorem State.startPhase_onlySlice (s : State) (c : Channel) (ph : Phase) : onlySlice c s (s.startPhase c ph) :=
  onlySlice_trans (onlySlice_modSlice s c _) (onlySlice_modSlice _ c _)

/-- The closing of a run record touches the profile and counter C of its channel only, and leaves no record open. -/
theorem State.closeRun_spec (s : State) (c : Channel) (b : Bool) :
    onlySlice c s (s.closeRun c b) ∧ ((s.closeRun c b).slice c).prf.record = none ∧
    (s.closeRun c b).slice c =
      { s.slice c with prf := ((s.closeRun c b).slice c).prf, ctr := ((s.closeRun c b).slice c).ctr } := by
  cases b with
  | false =>
    refine ⟨onlySlice_modSlice s c _, ?_, ?_⟩
    · simp [State.closeRun, Profile.abandon]
      cases h : (s.slice c).prf.record <;> simp [h]
    · simp [State.closeRun]
  | true =>
    cases h : (s.slice c).prf.record with
    | none => simp [State.closeRun, h]; exact onlySlice_refl c s
    | some r =>
      refine ⟨?_, ?_, ?_⟩
      · simp only [State.closeRun, h]
        exact onlySlice_trans (onlySlice_modSlice s c _) (onlySlice_modSlice _ c _)
      · simp [State.closeRun, h, State.countEvents, Profile.runEnd]
      · simp [State.closeRun, h, State.countEvents]

/-- The beginning of braking touches its channel only (R27). -/
theorem State.brake_onlySlice (s : State) (c : Channel) (a : AfterBrake) (r : Reason) (e : Bool) :
    onlySlice c s (s.brake c a r e) := by
  unfold State.brake
  exact onlySlice_trans (onlySlice_trans (onlySlice_trans (onlySlice_modSlice s c _) (onlySlice_modSlice _ c _))
    (State.endPhase_spec _ c).1) (State.closeRun_spec _ c e).1

/-- The channel as braking begins (R27): the move discarded, the phase and the run record ended, the grant kept. -/
theorem State.brake_spec (s : State) (c : Channel) (a : AfterBrake) (r : Reason) (e : Bool) :
    let sl := s.slice c
    let b := (s.brake c a r e).slice c
    b.cfg = sl.cfg ∧ b.trk = sl.trk ∧ b.arb = sl.arb ∧ b.drv = sl.drv.orderBrake ∧
    b.ctl =
      { sl.ctl with
        motion := .braking, afterBrake := a, endReason := some r, move := none, holdTimer := none, recovery := 0 } ∧
    b.est = { sl.est with phase := none, blankTimer := none } ∧ b.vdu = sl.vdu.endPhase ∧ b.prf.record = none := by
  dsimp only
  have hc := State.closeRun_spec (((s.modDrv c Drive.orderBrake).modCtl c fun t =>
    { t with motion := .braking, afterBrake := a, endReason := some r, move := none, holdTimer := none,
             recovery := 0 }).endPhase c) c e
  have he := (State.endPhase_spec ((s.modDrv c Drive.orderBrake).modCtl c fun t =>
    { t with motion := .braking, afterBrake := a, endReason := some r, move := none, holdTimer := none,
             recovery := 0 }) c).2
  have h2 := hc.2.2
  rw [he] at h2
  unfold State.brake
  dsimp only
  refine ⟨?_, ?_, ?_, ?_, ?_, ?_, ?_, hc.2.1⟩ <;> rw [h2] <;> simp

end Sys2Proof.Machine
end

