-- ==== Sys2Proof/Laws/Moves.lean ====
section
/-! SUPPORT. What `settle` makes of the parts of a MOVE that the statements name by `settlesTo` (R18). -/

namespace Sys2Proof.Machine

/-- A part of a MOVE that settles to a record does so by `settle`, whose direction is read from the direction byte but for a TARGET move. -/
theorem settle_of_settlesTo {travel : Nat} {pos : Int} {mode : MoveMode} {dirByte lo hi : Byte} {m : Move} (d : Dir)
    (h : settlesTo travel pos mode dirByte lo hi m) (hd : mode ≠ .target → dirOfByte dirByte = some d) :
    settle travel pos mode d (readU16 lo hi) m.source = .move m := by
  obtain ⟨mm, md, mt, ms⟩ := m
  rcases h with ⟨h, hb, hm, ht, he⟩ | ⟨h, hg, hm, hdir, ht⟩ | ⟨h, hg, hn, hm, ht, hdir⟩
  · obtain rfl : md = d := by
      have hd := hd h
      subst hb
      cases md <;> cases d <;> simp_all [dirOfByte, byteOf, Dir.code]
    simp only at hm ht he
    subst hm ht
    cases mm <;> cases md <;> simp_all [settle]
  · simp_all [settle, readU16]
  · simp only at hm ht hdir
    subst h hm ht hdir
    have hn' := Nat.not_le.2 hn
    unfold settle readU16
    dsimp only
    rw [if_neg hg, if_neg hn']
    split <;> rfl
end Sys2Proof.Machine
end

