-- ==== Sys2Proof/Laws/Store.lean ====
section
/-! SUPPORT. The check of a section (R157): it is linear, so that a difference alone decides whether a section written with a good check
still passes, and what the end of a WRITE phase can do. -/

namespace Sys2Proof.Machine

theorem crc16Shift_xor (x y : BitVec 16) : crc16Shift (x ^^^ y) = crc16Shift x ^^^ crc16Shift y := by
  unfold crc16Shift
  rw [BitVec.msb_xor, BitVec.shiftLeft_xor_distrib]
  cases x.msb <;> cases y.msb <;> simp
  · ac_rfl
  · ac_rfl
  · rw [show x <<< 1 ^^^ 4129#16 ^^^ (y <<< 1 ^^^ 4129#16) = x <<< 1 ^^^ y <<< 1 ^^^ (4129#16 ^^^ 4129#16) by ac_rfl]
    simp

theorem crc16Step_xor (x y : BitVec 16) (a b : Byte) :
    crc16Step (x ^^^ y) (a ^^^ b) = crc16Step x a ^^^ crc16Step y b := by
  have h : x ^^^ y ^^^ ((a ^^^ b).setWidth 16 <<< 8) =
      (x ^^^ (a.setWidth 16 <<< 8)) ^^^ (y ^^^ (b.setWidth 16 <<< 8)) := by
    rw [BitVec.setWidth_xor, BitVec.shiftLeft_xor_distrib]; ac_rfl
  simp only [crc16Step, h, crc16Shift_xor]

/-- The check of a difference is the difference of the checks. -/
theorem crc16From_xor : ∀ (bs ds : List Byte) (x y : BitVec 16), bs.length = ds.length →
    crc16From (x ^^^ y) (List.zipWith (· ^^^ ·) bs ds) = crc16From x bs ^^^ crc16From y ds
  | [], [], _, _, _ => rfl
  | b :: bs, d :: ds, x, y, h => by
    simp only [List.length_cons, Nat.add_right_cancel_iff] at h
    simpa [crc16From, crc16Step_xor] using crc16From_xor bs ds (crc16Step x b) (crc16Step y d) h

theorem checkBytes_xor (x y : BitVec 16) : checkBytes (x ^^^ y) = List.zipWith (· ^^^ ·) (checkBytes x) (checkBytes y) := by
  simp [checkBytes, BitVec.ushiftRight_xor_distrib, BitVec.setWidth_xor]

@[simp] theorem checkBytes_length (x : BitVec 16) : (checkBytes x).length = 2 := rfl

@[simp] theorem sectionDiff_length (size : Nat) (diff : List Byte) : (sectionDiff size diff).length = size := by
  simp [sectionDiff]

/-- Two bytes under the same difference are the same two bytes. -/
theorem zipWith_xor_checkBytes (x : BitVec 16) {ds es : List Byte} (hd : ds.length = 2) (he : es.length = 2) :
    List.zipWith (· ^^^ ·) (checkBytes x) ds = List.zipWith (· ^^^ ·) (checkBytes x) es ↔ ds = es := by
  match ds, es, hd, he with
  | [a, b], [c, d], _, _ => simp [checkBytes]

/-- A section written with the check of its content, and then standing at a difference from that, passes its check exactly as
`keepsCheck` says, whatever the content is. -/
theorem passesCheck_written (content diff : List Byte) :
    passesCheck (content.length + 2)
        (List.zipWith (· ^^^ ·) (content ++ checkBytes (crc16 content)) (sectionDiff (content.length + 2) diff)) =
      keepsCheck (content.length + 2) diff := by
  have hd := sectionDiff_length (content.length + 2) diff
  simp only [passesCheck, keepsCheck, Nat.add_sub_cancel, List.take_zipWith, List.drop_zipWith, List.take_left, List.drop_left]
  generalize sectionDiff (content.length + 2) diff = ds at hd ⊢
  have hc : crc16 (List.zipWith (· ^^^ ·) content (ds.take content.length)) =
      crc16 content ^^^ crc16From 0 (ds.take content.length) :=
    crc16From_xor content (ds.take content.length) 0xFFFF 0 (by simp; omega)
  rw [hc, checkBytes_xor]
  exact decide_eq_decide.mpr (zipWith_xor_checkBytes _ (by simp; omega) rfl)

/-- The end of a WRITE phase changes the operation and its section of the image, and nothing else of the store. -/
theorem Store.endWrite_spec (t : Store) (diff : List Byte) (n : Nat) :
    t.endWrite diff n = { t with op := (t.endWrite diff n).op, image := (t.endWrite diff n).image } := by
  unfold Store.endWrite
  split <;> rfl

end Sys2Proof.Machine
end

