-- ==== Sys2Proof/WellFormed.lean ====
section
/-! DEFINITION. Which commands the outside can send: what the line and the converters can carry. `exec` is total all the
same: an ill-formed command is taken by the same rules. -/

namespace Sys2Proof

/-- A frame carries at most 47 payload bytes (R141). -/
def payloadFits (p : List Byte) : Bool := p.length ≤ 47

/-- The fourteen request kinds are 0x01 to 0x0E (R146). -/
def isRequestKind (k : Byte) : Bool := 1 ≤ k.toNat && k.toNat ≤ 14

/-- The checks on one command. -/
def Instr.wf : Instr → Bool
  | .move p | .halt p | .vehicle p | .set p | .lock p | .permit p | .forget p | .clearFault p | .tap p
  | .countSelect p | .store p | .park p | .restart p => payloadFits p
  | .unknownKind k p => !isRequestKind k && payloadFits p
  | .sensorFailed mg => mg ≤ -8000 || 8000 ≤ mg
  | .overcurrentFault _ mA => 38000 ≤ mA
  | .writePhaseEnd diff => diff.length ≤ 4096
  | .currentAccumulatorTick micros _ => 1 ≤ micros
  | .hallTransition .. | .longPastMarker _ | .askChannel .. | .askProfile .. | .askIncident .. | .askCounters ..
  | .askLink .. | .askSetting .. | .askPermit .. | .receiveByte _ | .lineError | .gapTimerExpiry | .reportSent
  | .supplySample _ | .supplyCut _ | .stepWindowClose | .bodyMotionSample _ | .overcurrentCheck .. | .runCreditTick _
  | .creditRecovery _ | .thermalLimit _ | .dutyRampTick _ | .holdTimerExpiry _ | .heldTimerExpiry _
  | .silenceTimerExpiry _ | .brakeLimitTimerExpiry _ | .stallExpiry _ | .blankingTimerExpiry _ | .speedTimerExpiry
  | .verifyPhaseEnd | .markClear | .powerOn | .coldStart | .pwmPeriodBoundary _ | .logClockTick => true

end Sys2Proof
end

