-- ==== Sys2Proof/Tests/Slice0.lean ====
section
/-! SUPPORT. Tests of the model against figures the manual works out, the smoke test of WellFormed, and for every statement with
hypotheses states and operands that meet them. -/

open Sys2Proof Sys2Proof.Machine

namespace Sys2Proof.Tests

set_option Elab.async false

/-! ### Helpers -/

/-- The next state of a command, or the state itself where it stops. -/
def after (i : Instr) (s : State) : State :=
  match exec i s with
  | .next t => t
  | .fault _ | .refused _ => s

/-- A part at 12 V with the sag flag clear and every channel referenced at a position. -/
def ready (pos : Int) : State :=
  { State.reset with
    supply := { startSupply with value := 12000, sag := false }
    ch := Octet.ofFn fun c => coldSlice (defaultChannelSettings c) emptyZones 0 { a := false, b := false } (pos, true) }

/-- A slice past start blanking in a drive, with the move, phase and stall timer that go with it. -/
def driven (sl : Slice) (motion : Motion) (dir : Dir) (ph : Phase) (m : Option Move) : Slice :=
  { sl with
    ctl := { sl.ctl with motion := motion, move := m }
    drv :=
      { mode := .drive, dir := some dir, profile := .normal, target := 255, staged := 255, applied := 255, silence := none,
        brakeLimit := none }
    arb := { held := true, startCharge := 9000, runCharge := 4000, inBlanking := false, charge := 4000 }
    est := { sl.est with phase := some ph, sampleNo := 30, filter := some 357 }
    vdu := { sl.vdu with stallTimer := some 30, firstEdge := true } }

/-- ch2 under an EXPRESS close of REAR_LEFT at a position, with a run record from position 3 160. -/
def closing (pos : Int) : State :=
  ((ready pos).modSlice 2 fun sl => driven sl .closing .closing .closing
    (some { mode := .express, dir := .closing, target := 0, source := .rearLeft })).modPrf 2 fun p =>
      { p with record := some (openRecord 3160 true false) }

/-- ch2 under an EXPRESS open of REAR_LEFT. -/
def opening (pos : Int) : State :=
  (ready pos).modSlice 2 fun sl => driven sl .opening .opening .opening
    (some { mode := .express, dir := .opening, target := 3200, source := .rearLeft })

/-- ch2 in the reversal of a pinch, with a target. -/
def reversing (pos : Int) (target : Nat) : State :=
  ((ready pos).modSlice 2 fun sl => driven sl .reversing .opening .reversing none).modCtl 2 fun k =>
    { k with reversalOpen := true, streak := 1, reversalTarget := target }

/-- ch2 braking with an action. -/
def braking (pos : Int) (action : AfterBrake) : State :=
  (closing pos).modSlice 2 fun sl =>
    { sl with
      ctl := { sl.ctl with motion := .braking, move := none, afterBrake := action, endReason := some .halted }
      drv := sl.drv.orderBrake
      est := { sl.est with phase := none }
      vdu := { sl.vdu with stallTimer := none }
      prf := { sl.prf with record := none } }

/-- ch2 FAULTED. -/
def faulted : State := (ready 500).modCtl 2 fun k => { k with motion := .faulted }

/-- ch2 waiting behind the sag flag. -/
def waiting : State :=
  { (ready 500).modCtl 2 fun k => { k with
      motion := .waiting, move := some { mode := .manual, dir := .closing, target := 0, source := .body },
      holdTimer := some 150 } with
    queue := [{ channel := 2, passes := 0 }]
    supply := { startSupply with value := 8000 } }

/-- The report on the line. -/
def sent (s : State) : Option Report := s.link.sending

/-! ### WellFormed refuses -/

theorem test_wf_payload : (Instr.move (List.replicate 48 0)).wf = false ∧ (Instr.move (List.replicate 47 0)).wf = true := by
  decide

theorem test_wf_every_request_row :
    ([Instr.halt, .vehicle, .set, .lock, .permit, .forget, .clearFault, .tap, .countSelect, .store, .park, .restart].all
      fun row => !(row (List.replicate 48 0)).wf && (row [0, 6]).wf) = true := by decide

theorem test_wf_unknown_kind :
    (Instr.unknownKind 14 []).wf = false ∧ (Instr.unknownKind 15 []).wf = true ∧
    (Instr.unknownKind 15 (List.replicate 48 0)).wf = false := by decide

theorem test_wf_sensor_limit : (Instr.sensorFailed 7999).wf = false ∧ (Instr.sensorFailed 8000).wf = true := by decide

theorem test_wf_overcurrent : (Instr.overcurrentFault 2 37999).wf = false ∧ (Instr.overcurrentFault 2 38000).wf = true := by
  decide

theorem test_wf_write_phase : (Instr.writePhaseEnd (List.replicate 4097 0)).wf = false ∧ (Instr.writePhaseEnd (List.replicate 4096 0)).wf = true := by
  decide +kernel

theorem test_wf_microseconds :
    (Instr.currentAccumulatorTick 0 (Octet.ofFn fun _ => 0)).wf = false ∧
    (Instr.currentAccumulatorTick 1 (Octet.ofFn fun _ => 0)).wf = true := by decide

/-! ### The manual's worked figures -/

/-- R143's test value, byte by byte. -/
theorem test_check_of_lock :
    [crc8 [0x03], crc8 [0x03, 0x06], crc8 [0x03, 0x06, 0x00], crc8 [0x03, 0x06, 0x00, 0x06]] = [0xFA, 0xFA, 0xE8, 0x84] ∧
    frameOf 0x06 [0x00, 0x06] = [0x5A, 0x03, 0x06, 0x00, 0x06, 0x84] := by decide +kernel

/-- R157's check on the digits 1 to 9, the value under which its polynomial, start and order are known (CRC-16 of 0x1021 from 0xFFFF), and
that a PARK section of one wrong byte fails it. The last two differences, in the content and in the check, agree. -/
theorem test_check_of_section :
    crc16 [0x31, 0x32, 0x33, 0x34, 0x35, 0x36, 0x37, 0x38, 0x39] = 0x29B1 ∧
    [[], [1], List.replicate 19 0 ++ [1], List.replicate 17 0 ++ [1, 0x10, 0x21]].map (keepsCheck 20) =
      [true, false, false, true] := by decide +kernel

/-- R141: the sync byte 0x5A on the line, a low start bit, the least significant bit first, a high stop bit. -/
theorem test_levels_of_sync :
    byteLevels 0x5A = [false, false, true, false, true, true, false, true, false, true] ∧
    receivedAs (byteLevels 0x5A) = some (.receiveByte 0x5A) ∧ receivedAs (List.replicate 10 false) = some .lineError ∧
    receivedAs (List.replicate 10 true) = none := by decide +kernel

/-- R13's table for TRAVEL 3 000 and 100, and the worked position 1 520. -/
theorem test_zones :
    [46, 47, 374, 375].map (fun p => (zoneOf 3000 p).val) = [0, 1, 7, 8] ∧
    [4, 5, 7, 8, 10, 11, 13].map (fun p => (zoneOf 100 p).val) = [2, 3, 4, 5, 6, 7, 8] ∧
    [-16, 1520, 3199, 3216].map (fun p => (zoneOf 3200 p).val) = [0, 30, 63, 63] := by decide

/-- R71's table. -/
theorem test_normalised_period :
    [normPeriod 800 12000 255, normPeriod 1200 9000 255, normPeriod 1280 12000 160, normPeriod 1 6750 255,
      normPeriod 65535 13500 255, normPeriod 65535 14000 255] = [711, 800, 714, 1, 65535, 65535] := by decide

/-- R73's rest from below and from above. -/
theorem test_filter :
    [290, 296, 297, 310, 304, 303].map (fun f => filtered 2 (some f) 300) = [292, 297, 297, 308, 303, 303] := by decide

/-- R74's table. -/
theorem test_baseline :
    let zone := fun (x : ZoneState) (b : Nat) (tz : Int) => ({ state := x, baseline := b, spread := 0, stamp := 0, tz := tz } : ZoneRecord)
    [effBaseline 220 24 (zone .learned 214 18) true 8, effBaseline 220 24 (zone .learned 214 18) true 30,
      effBaseline 220 24 emptyZone true (-10), effBaseline 220 24 emptyZone true (-25), effBaseline 220 24 emptyZone true 25,
      effBaseline 220 24 (zone .stale 300 40) false 0] = [229, 214, 265, 287, 220, 300] := by decide

/-- R87's table, on the defaults of ch2. -/
theorem test_trip_level :
    let cfg := defaultChannelSettings 2
    let zone := fun (x : ZoneState) (n : Nat) => ({ state := x, baseline := 0, spread := n, stamp := 0, tz := 20 } : ZoneRecord)
    [tripLevel cfg (zone .learned 6) false 37, tripLevel cfg emptyZone false 0, tripLevel cfg (zone .learned 50) false 0,
      tripLevel cfg (zone .stale 10) true 95, tripLevel cfg (zone .learned 60) true 40] = [109, 100, 160, 180, 180] ∧
    [109, 100, 160, 180].map watchLevel = [68, 62, 100, 112] := by decide

/-- R32's table. -/
theorem test_reversal_target :
    let cfg := defaultChannelSettings 2
    [1496, 120, 2900].map (reversalTargetOf cfg) = [2096, 800, 3200] ∧
    reversalTargetOf { cfg with revDist := 0 } 1496 = 3200 := by decide

/-- R111's table. -/
theorem test_learning_step :
    let cfg := defaultChannelSettings 2
    let figures := fun (x : ZoneState) (b n m : Nat) =>
      let z := learnZone cfg 1 8 m { state := x, baseline := b, spread := n, stamp := 0, tz := 8 }
      (z.baseline, z.spread)
    [figures .learned 214 6 294, figures .learned 250 10 246, figures .stale 300 20 301, figures .learned 595 8 640,
      figures .learned 400 50 1400] = [(226, 24), (249, 9), (300, 16), (600, 17), (412, 60)] := by decide

/-- R79's table, samples 1 to 4. -/
theorem test_pothole :
    let next := fun (m : BodyMotion) (a : Int) => m.sample 10 a
    let m0 : BodyMotion := { rest := some 1000, dlev := 0, limitCount := 0, failed := false }
    let m1 := next m0 1640
    let m2 := next m1 420
    let m3 := next m2 1300
    [m1, m2, m3, next m3 1000].map (fun m => (m.dlev, m.rest)) =
      [(640, some 1002), (630, some 1000), (620, some 1001), (610, some 1001)] := by decide

/-- R60's table: the samples of ms 101, 102 and 109. -/
theorem test_step_window :
    isStep 600 (List.replicate 8 12400) 12100 = false ∧ isStep 600 (List.replicate 8 12400) 11800 = true ∧
    isStep 600 (12100 :: List.replicate 7 11700) 11700 = false ∧ isStep 600 (List.replicate 7 12400) 6000 = false := by decide

/-- R48's ramp at its 14th and 15th ms. -/
theorem test_ramp :
    let d := fun (n : Nat) => ({ startDrive 140 with mode := .drive, dir := some .opening, target := 255, staged := n } : Drive)
    [140, 244, 252].map (fun n => ((d n).rampTick (defaultChannelSettings 2) true 500).staged) = [148, 252, 255] := by decide

/-- R152's example at its 4th, 5th, 10th and 13th choice. -/
theorem test_weighted_choice :
    let r : Report := .stored .park 0
    let u : Report := .stored .store 0
    let pick := fun (us rs : List Report) (run : Nat) =>
      let l := ({ coldLink with urgent := us, routine := rs, urgentRun := run } : Link).choose .four
      (l.sending, l.urgentRun)
    [pick [u, u] [r] 3, pick [u, u] [r] 4, pick [u] [r, r] 0, pick [] [r] 2] =
      [(some u, 4), (some r, 0), (some u, 1), (some r, 0)] := by decide

/-- Section 11.1: the outcomes of a remote-key close of all eight channels, and the queue it leaves. -/
theorem test_group_close :
    let t := after (.move [7, 5, 255, 0, 1, 0, 0]) (ready 500)
    sent t = some (.answer 7 1 .done [[1], [1], [1], [2], [2], [2], [2], [1]]) ∧ t.chargeSum = 30000 ∧
    t.queue = [3, 4, 5, 6].map fun c => { channel := c, passes := 1 } := by decide +kernel

/-- Section 11.2: the state after the sample at 1 495, two hits into a pinch. -/
def fingered : State :=
  let zone : ZoneRecord := { state := .learned, baseline := 214, spread := 6, stamp := 0, tz := 18 }
  let hit := fun (p r : Int) => ({ position := p, residue := r, tl := 109, cls := .trip, valid := true } : Slot)
  let s := ((closing 1495).modPrf 2 fun p => { p with zones := p.zones.set 29 zone }).modVdu 2 fun v =>
    { v with window := [hit 1495 128, hit 1496 112] }
  let s' : State :=
    { s.modEst 2 fun e => { e with readings := [(3600, 929)] } with
      timeBase := 929, motion := { rest := some 0, dlev := 300, limitCount := 0, failed := false }
      vehicle := { coldVehicle with temp := 8, tempKnown := true } }
  s'.modTrk 2 fun k => { k with longPast := false }

/-- Section 11.2: the sample at 1 494 and the pinch it brings. -/
theorem test_finger_on_the_window :
    let t := after (.hallTransition 2 true false) fingered
    (t.slice 2).est.newest = some { f := 370, bEff := 229, allowance := 37, residue := 141 } ∧
    (t.slice 2).ctl.motion = .braking ∧ (t.slice 2).ctl.reversalTarget = 2096 ∧ (t.slice 2).ctl.streak = 1 ∧
    (match sent t with
      | some (.incident r) =>
        decide (((r.position, r.zone.val, r.duty, r.supply), (r.mode, r.source)) =
          ((1494, 29, 255, 12000), (.express, some .rearLeft))) &&
        decide (r.band.map (fun g => (g.residue, g.tl, g.hitMask, g.hitIndex)) = some (141, 109, 7, 2)) &&
        decide ((incidentFields r).flatten.length = 38)
      | _ => false) = true := by decide +kernel

/-- Section 11.4: the pinch that brings the streak to 3 and the quiet that brings held mode. -/
theorem test_third_reversal :
    let s := (braking 1813 .reverse).modCtl 2 fun k => { k with reversalOpen := true, streak := 3, reversalTarget := 1810 }
    let t := after (.silenceTimerExpiry 2) s
    (t.slice 2).ctl.motion = .idle ∧ (t.slice 2).ctl.held = true ∧ (t.slice 2).ctl.heldTimer = some 30000 := by
  decide +kernel

/-! ### States and operands that meet the hypotheses of each statement

One theorem per statement, one conjunct per clause, with the hypotheses in the statement's order at a boundary value where the clause
has one. -/

/-- A part held at its start. -/
def held : State := after .powerOn (ready 500)

/-- A part held at its start over a PARK section, with a position for every channel. -/
def parked (checkGood mark : Bool) (pos : BitVec 16) : State :=
  { held with store := { held.store with
      image := { blankImage with
        park := { content := { positions := Octet.ofFn fun _ => pos, mark := mark }, checkGood := checkGood, wrong := 0 } } } }

/-- `s` with an operation in flight. -/
def writing (x : Snapshot) (ph : OpPhase) (s : State) : State :=
  { s with store := { s.store with op := some { snapshot := x, phase := ph, left := 3 } } }

/-- A snapshot of each section. -/
def storeSnapshot : Snapshot := .store defaultContent
def parkSnapshot : Snapshot := .park { positions := Octet.ofFn fun _ => 0, mark := true }

theorem witness_StepTakesFrontCommand :
    ({ ready 500 with pending := [.lineError] } : State).pending = .lineError :: [] ∧ (ready 500).pending = [] := ⟨rfl, rfl⟩

theorem witness_StartValues :
    held.power = .held ∧
    (ready 500).power = .running ∧ (ready 500).privileged 6 ∧ (ready 500).queue = [] ∧
    ∀ c : Channel, ((ready 500).slice c).arb.held = false := by decide +kernel

theorem witness_TrackersAtStart :
    (parked true true 0xFFF0).power = .held ∧
    (let x := (parked true true 0xFFF0).store.image.park
     x.checkGood = true ∧ x.content.mark = true ∧ (x.content.positions.get 2).toInt = -16) ∧
    (let x := (parked true false 3216).store.image.park
     x.checkGood = true ∧ x.content.mark = false) ∧
    (parked false true 0).store.image.park.checkGood = false := by decide +kernel

theorem witness_BrownOutHoldsThePart :
    ((ready 500).power = .running ∧ 5499 < 5500) ∧ (held.power = .held ∧ 5499 < 5500) ∧ (held.power = .held ∧ 5500 ≤ 5500) := by
  decide

theorem witness_HallPairMovesTracker :
    let faulty := (closing 500).modTrk 2 fun k => { k with history := [false, false, false] }
    ((ready 500).power = .running ∧ ((ready 500).slice 2).trk.hall = { a := false, b := false }) ∧
    ((faulty.slice 2).trk.hall = { a := false, b := false } ∧ (faulty.slice 2).ctl.motion ≠ .faulted ∧
      invalidCount (faulty.slice 2).trk.history ≤ 3 ∧ 4 ≤ (((faulty.slice 2).trk.history ++ [false]).filter fun v => !v).length ∧ (faulty.slice 2).drv.mode ≠ .off ∧
      (faulty.slice 2).arb.held = true ∧ (faulty.slice 2).prf.record = some (openRecord 3160 true false)) := by
  decide +kernel

theorem witness_PeriodAndLongPastMarker :
    ((ready 500).slice 2).trk.longPast = true ∧
    ({ ((ready 500).slice 2).trk with longPast := false } : Tracker).longPast = false ∧ (ready 500).power = .running := by
  decide +kernel

theorem witness_MicrosecondsAreAccumulated :
    (ready 500).power = .running ∧ readingsMicros ((ready 500).slice 2).est.readings + 65535 ≤ 65535 := by decide +kernel

theorem witness_MicrosecondTicksAdd : (ready 500).power = .running := rfl

theorem witness_LogClockTick : (ready 500).power = .running := rfl

theorem witness_FrameIsHeldAgainstCatalogue :
    (ready 500).power = .running ∧ (¬(1 ≤ (0 : Byte).toNat ∧ (0 : Byte).toNat ≤ 14) ∧
      ¬(1 ≤ (15 : Byte).toNat ∧ (15 : Byte).toNat ≤ 14)) ∧
    (([] : List Byte).length ≠ payloadLength .lock ∧ [0, 6].length = payloadLength .lock) := by decide

theorem witness_NamelessValuesAreMalformed :
    (ready 500).power = .running ∧ [(7 : Byte), 8].length = payloadLength .lock ∧ 8 ≤ (8 : Byte).toNat ∧ namesSource 0 ∧
    namesSource 7 ∧ (3 ≤ (3 : Byte).toNat ∨ ((3 : Byte).toNat ≤ 1 ∧ 2 ≤ (0 : Byte).toNat)) ∧
    (3 ≤ (1 : Byte).toNat ∨ ((1 : Byte).toNat ≤ 1 ∧ 2 ≤ (2 : Byte).toNat)) ∧ 8 ≤ (8 : Byte).toNat ∧
    (8 ≤ (8 : Byte).toNat ∨ 12 ≤ (0 : Byte).toNat) ∧ (8 ≤ (7 : Byte).toNat ∨ 12 ≤ (12 : Byte).toNat) ∧
    7 ≤ (7 : Byte).toNat := by decide

theorem witness_UnprivilegedSensitiveIsReferred :
    (ready 500).power = .running ∧ RequestKind.lock ∈ [RequestKind.set, .permit, .lock, .forget, .clearFault, .restart, .store, .park] ∧
    [(7 : Byte), 0].length = payloadLength .lock ∧ sourceOfByte 0 = some .driver ∧
    (ready 500).priv.get (Source.index .driver) = false := by decide +kernel

theorem witness_UnallowedMoveTouchesNoChannel :
    (ready 500).power = .running ∧ sourceOfByte 2 = some .rearLeft ∧
    ((1 : Byte).toNat = 2 ∨ ((1 : Byte).toNat ≤ 1 ∧ (1 : Byte).toNat ≤ 1)) ∧
    ∀ c ∈ channelsOf 3, ¬(ready 500).allows .rearLeft c := by decide +kernel

theorem witness_MoveStartsIdleChannel :
    let starts := fun (s : State) =>
      (s.power = .running ∧ sourceOfByte 6 = some .body ∧ s.allows .body 2) ∧
      ((s.slice 2).ctl.motion = .idle ∧ (s.slice 2).drv.mode = .off ∧ (s.slice 2).trk.referenced = true ∧
        (s.slice 2).ctl.held = false ∧ (s.slice 2).trk.position < (s.slice 2).cfg.travel) ∧
      min (s.slice 2).cfg.creditStart (s.slice 2).cfg.creditMax ≤ (s.slice 2).ctl.credit ∧
      s.supply.sag = false ∧ s.chargeSum + (s.slice 2).cfg.iStart ≤ s.globals.budget
    let behind : State :=
      { (ready 500).modCfg 3 fun k => { k with iStart := 30001 } with queue := [{ channel := 3, passes := 2 }] }
    let unblanked := (ready 500).modCfg 2 fun k => { k with blank := 0 }
    (starts (ready 500) ∧ (ready 500).queue = [] ∧ ((ready 500).slice 2).cfg.blank ≠ 0) ∧
    (starts behind ∧ (∀ e ∈ behind.queue, e.channel ≠ 2 ∧ e.passes < 3 ∧
      behind.globals.budget < behind.chargeSum + (behind.slice e.channel).cfg.iStart) ∧ (behind.slice 2).cfg.blank ≠ 0) ∧
    (starts unblanked ∧ (unblanked.slice 2).cfg.blank = 0 ∧ unblanked.queue = []) ∧
    (MoveMode.manual ≠ .target ∧ (0 : Byte) = byteOf (Dir.code .closing) ∧ (1 : Byte) = byteOf (Dir.code .opening)) ∧
    (min ((0 : Byte).toNat + 256 * (0 : Byte).toNat) ((ready 500).slice 2).cfg.travel = 0) ∧
    (let goal := min ((0xF1 : Byte).toNat + 256 * (1 : Byte).toNat) ((ready 500).slice 2).cfg.travel
     goal ≠ 0 ∧ 2 < ((goal : Int) - ((ready 500).slice 2).trk.position).natAbs ∧
      (goal : Int) < ((ready 500).slice 2).trk.position) ∧
    ((channelsOf 0x81).Pairwise (· < ·) ∧ channelsOf 0x81 = [0, 7] ∧ (ready 500).allows .body 7) := by decide +kernel

theorem witness_SagQueuesMove :
    let s : State := { ready 500 with supply := startSupply }
    (s.power = .running ∧ sourceOfByte 6 = some .body ∧ s.allows .body 2 ∧ (s.slice 2).ctl.motion = .idle) ∧
    (s.slice 2).trk.referenced = true ∧ (s.slice 2).ctl.held = false ∧ s.isQueued 2 = false ∧ s.supply.sag = true := by
  decide +kernel

theorem witness_MoveRefusals :
    let admits := fun (s : State) => s.power = .running ∧ s.allows .body 2 ∧ (s.slice 2).trk.referenced = true ∧
      (s.slice 2).ctl.motion ≠ .faulted
    sourceOfByte 6 = some .body ∧ (faulted.power = .running ∧ faulted.allows .body 2 ∧ (faulted.slice 2).ctl.motion = .faulted) ∧
    (let s := (ready 500).modTrk 2 fun k => { k with referenced := false }
     s.allows .body 2 ∧ (s.slice 2).ctl.motion ≠ .faulted ∧ (s.slice 2).trk.referenced = false) ∧
    (let s := (ready 500).modCtl 2 fun k => { k with held := true, heldTimer := some 1 }
     admits s ∧ (s.slice 2).ctl.held = true) ∧
    (admits (reversing 900 2096) ∧ ((reversing 900 2096).slice 2).ctl.motion = .reversing ∧
      ((reversing 900 2096).slice 2).ctl.held = false) ∧
    (admits (braking 900 .reverse) ∧ ((braking 900 .reverse).slice 2).ctl.motion = .braking ∧
      ((braking 900 .reverse).slice 2).ctl.afterBrake = .reverse) := by decide +kernel

theorem witness_MoveRefusals_thermal :
    let poor := fun (s : State) => s.modCtl 2 fun k => { k with credit := 14999 }
    [poor (ready 500), poor waiting, poor (closing 900), poor (braking 900 .goIdle), poor (braking 900 .requeue)].all
      (fun s => decide (s.power = .running) && decide (s.allows .body 2) && decide ((s.slice 2).ctl.motion ≠ .faulted) &&
        decide ((s.slice 2).ctl.motion ≠ .opening ∧ (s.slice 2).ctl.motion ≠ .reversing) &&
        !(s.slice 2).ctl.inReversal && (s.slice 2).trk.referenced &&
        decide ((s.slice 2).ctl.credit < min (s.slice 2).cfg.creditStart (s.slice 2).cfg.creditMax)) = true := by
  decide +kernel

theorem witness_MoveMergesOrBrakes :
    let goal := fun (lo hi : Byte) => min (lo.toNat + 256 * hi.toNat) ((ready 900).slice 2).cfg.travel
    let admits := fun (s : State) =>
      s.power = .running ∧ s.allows .body 2 ∧ (s.slice 2).trk.referenced = true ∧ (s.slice 2).ctl.held = false ∧
      min (s.slice 2).cfg.creditStart (s.slice 2).cfg.creditMax ≤ (s.slice 2).ctl.credit
    sourceOfByte 6 = some .body ∧ (admits waiting ∧ (waiting.slice 2).ctl.motion = .waiting) ∧
    (admits (closing 900) ∧ ((closing 900).slice 2).ctl.motion = drivenIn .closing ∧ ((closing 900).slice 2).drv.mode = .drive) ∧
    (admits (opening 900) ∧ ((opening 900).slice 2).ctl.motion = drivenIn .opening ∧ ((opening 900).slice 2).drv.mode = .drive) ∧
    (admits (reversing 900 2096) ∧ ((reversing 900 2096).slice 2).ctl.motion = .reversing) ∧
    (((ready 3200).slice 2).trk.referenced = true ∧
      (((ready 3200).slice 2).cfg.travel : Int) ≤ ((ready 3200).slice 2).trk.position ∧
      ((ready 3200).slice 2).ctl.motion = .idle) ∧
    (goal 0x86 3 ≠ 0 ∧ ((goal 0x86 3 : Int) - ((opening 900).slice 2).trk.position).natAbs ≤ 2 ∧
      ((opening 900).slice 2).trk.referenced = true ∧ ((opening 900).slice 2).ctl.motion = .opening ∧
      ((opening 900).slice 2).drv.mode = .drive) ∧
    (((braking 900 .reverse).slice 2).ctl.motion = .braking ∧ ((braking 900 .reverse).slice 2).ctl.afterBrake = .reverse) ∧
    (admits (braking 900 .requeue) ∧ ((braking 900 .requeue).slice 2).ctl.motion = .braking ∧
      ((braking 900 .requeue).slice 2).ctl.afterBrake ≠ .reverse) ∧
    (goal 0xF6 1 ≠ 0 ∧ ((goal 0xF6 1 : Int) - (waiting.slice 2).trk.position).natAbs ≤ 2 ∧
      (waiting.slice 2).ctl.motion = .waiting ∧ (waiting.slice 2).trk.referenced = true) := by decide +kernel

theorem witness_MoveMergesOrBrakes_settles :
    settlesTo 3200 900 .manual 1 0 0 { mode := .manual, dir := .opening, target := 3200, source := .body } ∧
    settlesTo 3200 500 .express 0 0 0 { mode := .express, dir := .closing, target := 0, source := .body } ∧
    settlesTo 3200 900 .target 7 0 0 { mode := .express, dir := .closing, target := 0, source := .body } ∧
    settlesTo 3200 900 .target 7 0x87 3 { mode := .target, dir := .opening, target := 903, source := .body } ∧
    settlesTo 3200 900 .target 7 0x81 3 { mode := .target, dir := .closing, target := 897, source := .body } := by
  refine ⟨Or.inl ?_, Or.inl ?_, Or.inr (Or.inl ?_), Or.inr (Or.inr ?_), Or.inr (Or.inr ?_)⟩ <;> simp <;> decide

theorem witness_HaltStopsChannel :
    namesSource 0 ∧ (ready 500).power = .running ∧ ((ready 500).slice 2).ctl.motion = .idle ∧
    ((waiting.slice 2).ctl.motion = .waiting ∧ (waiting.supply.sag = true ∨ ∀ e ∈ waiting.queue, e.channel = 2)) ∧
    (isDriven ((closing 900).slice 2).ctl.motion ∧ ((closing 900).slice 2).drv.mode = .drive) ∧
    (isDriven ((reversing 900 2096).slice 2).ctl.motion ∧ ((reversing 900 2096).slice 2).drv.mode = .drive) ∧
    ((braking 900 .goIdle).slice 2).ctl.motion = .braking ∧
    ((channelsOf 0x84).Pairwise (· < ·) ∧ channelsOf 0x84 = [2, 7]) := by decide +kernel

theorem witness_VehicleIsHeld :
    (ready 500).power = .running ∧ namesSource 0 ∧ (-40 ≤ (125 : Byte).toInt ∧ (125 : Byte).toInt ≤ 125) ∧
    ¬(-40 ≤ (126 : Byte).toInt ∧ (126 : Byte).toInt ≤ 125) := by decide

theorem witness_AskAnswersItsTopic :
    ((ready 500).power = .running ∧ namesSource 0 ∧ 8 ≤ (8 : Byte).toNat ∧ (4 : Byte) ≠ 3 ∧ 4 ≤ (4 : Byte).toNat) ∧
    (let e : QueueEntry := { channel := 2, passes := 3 }
     (∀ x ∈ [e], x.channel ≠ 3) ∧ ∀ x ∈ [{ e with channel := 3 }], x.channel ≠ e.channel) ∧
    (itemOfCode (0x2B : Byte).toNat = some (.perChannel .ageTemp)) ∧
    itemOfCode (0x4E : Byte).toNat = some (.global .lockAtStart) ∧ itemOfCode (0x2C : Byte).toNat = none ∧
    itemOfCode (0x4F : Byte).toNat = none ∧ sourceOfByte 7 = some .service := by decide

theorem witness_IncidentLookup :
    let r := (closing 900).incidentNow 2 .stallPinch
    let l : IncidentLog := { ring := [{ r with tag := 0xFFFF }, { r with tag := 0 }], nextTag := 1, clock := 0 }
    (coldLog.TagLaw ∧ coldLog.ring.length ≤ 32 ∧ coldLog.ring = []) ∧ (l.TagLaw ∧ l.ring.length ≤ 32) ∧
    (∃ x ∈ l.ring, x.tag = 0) ∧ ∀ x ∈ l.ring, x.tag ≠ 1 := by decide +kernel

theorem witness_TapSelects :
    ((ready 500).power = .running ∧ namesSource 7) ∧ (1 ≤ (7 : Byte).toNat ∧ (7 : Byte).toNat ≤ 7) ∧
    (2 ≤ (2 : Byte).toNat ∨ ((2 : Byte) = 1 ∧ 8 ≤ (0 : Byte).toNat)) ∧
    (2 ≤ (1 : Byte).toNat ∨ ((1 : Byte) = 1 ∧ 8 ≤ (8 : Byte).toNat)) := by decide

theorem witness_CountSelectAims :
    ((ready 500).power = .running ∧ namesSource 7 ∧ counterChoiceOfByte 3 = some .stallReversals ∧
      counterChoiceOfByte 4 = some .samples ∧ counterChoiceOfByte 8 = some .hallInvalid) ∧
    ((0 : Byte) = 0 ∧ (3 : Byte).toNat ≤ 3) ∧ ((1 : Byte) = 1 ∧ 4 ≤ (4 : Byte).toNat ∧ (4 : Byte).toNat ≤ 7) ∧
    ((2 : Byte) = 2 ∧ 8 ≤ (8 : Byte).toNat) ∧ (3 : Byte).toNat ≠ (8 : Byte).toNat / 4 := by decide

theorem witness_SetTakesChannelItem :
    ((ready 500).power = .running ∧ (ready 500).privileged 6 ∧ (ready 500).store.locked = false ∧
      ((ready 500).slice 2).ctl.motion = .idle ∧ (faulted.slice 2).ctl.motion = .faulted) ∧
    (readI32 3 0 0 0 = 3 ∧ itemOfCode (0 : Byte).toNat = some (.perChannel .kind)) ∧
    itemOfCode (1 : Byte).toNat = some (.perChannel .travel) ∧ itemOfCode (0x10 : Byte).toNat = some (.perChannel .winLen) ∧
    (itemOfCode (0x11 : Byte).toNat = some (.perChannel .mode) ∧ readI32 0xFF 0xFF 0xFF 0xFF < 0 ∧ 2 < readI32 3 0 0 0) ∧
    ChItem.ci ∉ [ChItem.travel, .winLen, .bFloor, .bCeil, .sMax, .nHeld, .creditMax, .iStart, .iRun, .kind] ∧
    (ready 500).queue = [] ∧ waiting.supply.sag = true ∧ ((ready 500).slice 2).trk.referenced = true := by decide +kernel

theorem witness_SetTakesGlobalItem :
    (ready 500).power = .running ∧ (ready 500).privileged 6 ∧ (ready 500).store.locked = false ∧
    itemOfCode (0x40 : Byte).toNat = some (.global .budget) ∧ itemOfCode (0x41 : Byte).toNat = some (.global .uSag) ∧
    (∀ c : Channel, ((ready 500).slice c).arb.held = false) ∧ (ready 500).queue = [] := by decide +kernel

theorem witness_SetRefusedAndLock :
    ((ready 500).power = .running ∧ (ready 500).privileged 6 ∧ itemOfCode (0x2C : Byte).toNat = none ∧
      itemOfCode (0x40 : Byte).toNat = some (.global .budget)) ∧
    (itemOfCode (0x2B : Byte).toNat = some (.perChannel .ageTemp) ∧ 8 ≤ (8 : Byte).toNat) ∧
    (itemOfCode (0 : Byte).toNat = some (.perChannel .kind) ∧ readI32 0xFF 0xFF 0xFF 0xFF < 0 ∧ 3 < readI32 4 0 0 0) ∧
    (after (.lock [0, 6]) (ready 500)).store.locked = true ∧
    ((closing 900).store.locked = false ∧ ((closing 900).slice 2).ctl.motion ≠ .idle ∧
      ((closing 900).slice 2).ctl.motion ≠ .faulted ∧ ((closing 900).slice 2).arb.held = true) := by decide +kernel

theorem witness_PermitWritesRow :
    ((ready 500).power = .running ∧ (ready 500).privileged 6 ∧ sourceOfByte 7 = some .service ∧
      (Source.body ≠ .service ∧ (ready 500).priv.get (Source.index .body) = true) ∧
      (ready 500).priv.get (Source.index .driver) = false) ∧
    (let p := (ready 500).priv.set (Source.index .service) false
     p.get (Source.index .body) = true ∧ ∀ x ∈ [Source.driver, .codriver, .rearLeft, .rearRight, .roofConsole, .remote, .service],
      p.get (Source.index x) = false) ∧
    ((List.replicate 8 (3 : Byte)).length = 8 ∧ ∃ b ∈ List.replicate 8 (3 : Byte), 3 ≤ b.toNat) := by decide +kernel

theorem witness_ForgetEmptiesProfile :
    (closing 900).power = .running ∧ (closing 900).privileged 6 ∧
    ((closing 900).slice 2).prf.record = some (openRecord 3160 true false) ∧ 8 ≤ (8 : Byte).toNat := by decide +kernel

theorem witness_ClearFaultReturnsToService :
    faulted.power = .running ∧ faulted.privileged 6 ∧ (faulted.slice 2).ctl.motion = .faulted ∧
    (faulted.slice 3).ctl.motion ≠ .faulted ∧ 8 ≤ (8 : Byte).toNat := by decide +kernel

theorem witness_StoreParkRestartAcceptance :
    ((ready 500).power = .running ∧ (ready 500).privileged 6 ∧ (ready 500).store.op = none) ∧
    (∀ c : Channel, ((ready 500).slice c).ctl.motion = .idle ∧ ((ready 500).slice c).trk.referenced = true) ∧
    (writing storeSnapshot .write (ready 500)).store.op ≠ none ∧
    (¬∀ c : Channel, ((closing 900).slice c).ctl.motion = .idle ∧ ((closing 900).slice c).trk.referenced = true) ∧
    (waiting.queue ≠ [] ∧ ∃ c : Channel, ((closing 900).slice c).arb.held = true) ∧
    ((ready 500).queue = [] ∧ ∀ c : Channel, ((ready 500).slice c).arb.held = false) := by decide +kernel

theorem witness_StoreOperationPhases :
    let wrong := fun (n : Nat) (diff : List Byte) => ((diff.take n).filter fun b => decide (b ≠ 0)).length
    ((writing storeSnapshot .write (ready 500)).store.op = some { snapshot := storeSnapshot, phase := .write, left := 3 } ∧
      (writing parkSnapshot .write (ready 500)).store.op = some { snapshot := parkSnapshot, phase := .write, left := 3 }) ∧
    (writing parkSnapshot .verify (ready 500)).store.op = some { snapshot := parkSnapshot, phase := .verify, left := 3 } ∧
    (let s : State := { ready 500 with store := { (ready 500).store with markStanding := true, clearDue := true } }
     s.power = .running ∧ s.store.clearDue = true ∧ s.store.op = none) ∧ (ready 500).store.clearDue = false ∧
    (wrong 20 [] = 0 ∧ wrong 20 (List.replicate 19 0 ++ [1]) = 1 ∧ wrong 18 (List.replicate 19 0 ++ [1]) = 0 ∧
      (List.replicate 18 (0 : Byte)).length + 2 = 20) :=
  ⟨⟨rfl, rfl⟩, rfl, ⟨rfl, rfl, rfl⟩, rfl, by decide +kernel⟩

theorem witness_StoredSettingsSurvive :
    (ready 500).power = .running ∧ (ready 500).privileged 6 ∧ (ready 500).store.op = none := by decide +kernel

/-- A content in range at the bounds of its zones: a LEARNED zone at B_CEIL and S_MAX beside EMPTY ones. -/
def contentInRange : SettingsContent :=
  { defaultContent with
    zones := Octet.ofFn fun _ =>
      emptyZones.set 5 { state := .learned, baseline := 600, spread := 60, stamp := 9, tz := -40 } }

theorem witness_StoredSettingsSurvive_inRange :
    (∀ i : GlItem, let r := glItemRange contentInRange.globals i
      r.1 ≤ glItemValue contentInRange.globals i ∧ glItemValue contentInRange.globals i ≤ r.2) ∧
    (∀ (c : Channel) (i : ChItem), let k := contentInRange.channels.get c
      let r := chItemRange contentInRange.globals k i
      r.1 ≤ chItemValue k i ∧ chItemValue k i ≤ r.2) ∧
    (∀ (c : Channel) (z : Fin 64), let k := contentInRange.channels.get c
      let loaded := (contentInRange.zones.get c)[z]
      if loaded.state = .empty then loaded = { state := .empty, baseline := 0, spread := 0, stamp := 0, tz := 20 }
      else k.bFloor ≤ loaded.baseline ∧ loaded.baseline ≤ k.bCeil ∧ loaded.spread ≤ k.sMax) := by
  refine ⟨fun i => ?_, fun c i => ?_, by decide +kernel⟩
  · cases i <;> decide
  · revert c; cases i <;> decide +kernel

/-- R62, R114, R155, R161: what a load makes of a U_CUT at its U_SAG, of a SEAL_BAND above TRAVEL / 4 and of a baseline above B_CEIL. -/
theorem test_load_clamps :
    let x : SettingsContent :=
      { contentInRange with
        globals := { contentInRange.globals with uSag := 6000, uCut := 6000 }
        channels := contentInRange.channels.map fun k => { k with travel := 100, bCeil := 500 } }
    (clampContent x).globals.uCut = 5999 ∧ ((clampContent x).channels.get 2).sealBand = 25 ∧
    ((clampContent x).zones.get 2)[5].baseline = 500 := by decide +kernel

theorem witness_ValidCountWithdrawsMark :
    let toTarget := fun (s : State) (dir : Dir) (n : Nat) => s.modCtl 2 fun k =>
      { k with move := some { mode := .target, dir := dir, target := n, source := .body } }
    let edge := fun (s : State) => s.power = .running ∧ (s.slice 2).trk.hall = { a := false, b := false } ∧
      invalidCount ((s.slice 2).trk.history ++ [false]) ≤ 3 ∧ (s.slice 2).trk.referenced = true ∧ (s.slice 2).drv.mode = .drive
    let s : State := { ready 500 with store := { (ready 500).store with markStanding := true } }
    (s.power = .running ∧ s.store.markStanding = true ∧ ((s.slice 2).trk.hall = { a := false, b := false }) ∧
      (false = false ∧ true = !false) ∧ (true = !false ∧ false = false)) ∧
    (edge (opening 3199) ∧ ((opening 3199).slice 2).ctl.motion = .opening ∧
      (((opening 3199).slice 2).cfg.travel : Int) ≤ 3199 + 1) ∧
    (edge (toTarget (opening 899) .opening 900) ∧ (900 : Int) ≤ 899 + 1) ∧
    (edge (toTarget (closing 901) .closing 900) ∧ (901 : Int) - 1 ≤ 900) ∧
    (edge (reversing 2095 2096) ∧ ((reversing 2095 2096).slice 2).ctl.motion = .reversing) ∧
    (edge (closing (-16)) ∧ (-16 : Int) - 1 < -16 ∧ isDriven ((closing (-16)).slice 2).ctl.motion) ∧
    (((ready (-16)).slice 2).trk.referenced = true ∧ ((ready (-16)).slice 2).ctl.motion = .idle ∧
      ((ready (-16)).slice 2).est.phase = none) ∧
    (let w := waiting.modTrk 2 fun k => { k with uncertainty := 8 }
     (w.slice 2).ctl.motion = .waiting ∧ 8 ≤ (w.slice 2).trk.uncertainty ∧ (w.slice 2).est.phase = none ∧
      (w.slice 2).ctl.move.map Move.mode = some .manual) ∧
    (let w := toTarget waiting .closing 100
     (w.slice 2).ctl.motion = .waiting ∧ (w.slice 2).ctl.move.map Move.mode ≠ some .manual) ∧
    (let rough := (closing 261).modTrk 2 fun k => { k with history := [false, false, false] }
     invalidCount ((rough.slice 2).trk.history ++ [true]) = 3 ∧ isDriven (rough.slice 2).ctl.motion ∧
      (rough.slice 2).vdu.stallTimer ≠ none ∧ (rough.slice 2).drv.dir = some .closing ∧
      (261 : Int) - 1 ≤ ((rough.slice 2).cfg.sealBand : Int) + (rough.slice 2).cfg.slowBand) ∧
    (let s := (opening 3199).modCtl 2 fun k => { k with held := true, heldTimer := some 1 }
     (s.slice 2).ctl.held = true ∧ s.tap.channel ≠ some 2) ∧
    ((((braking 900 .goIdle).slice 2).ctl.motion = .braking ∧ ((braking 900 .goIdle).slice 2).drv.mode = .brake)) := by
  decide +kernel

/-- R49 (its example): at the edge that brings a close to SEAL_BAND + SLOW_BAND the target and the staged duty fall to D_SEAL. -/
theorem test_edge_slows_at_the_seal :
    let t := after (.hallTransition 2 true false) (closing 261)
    (t.slice 2).trk.position = 260 ∧ (t.slice 2).drv.target = 160 ∧ (t.slice 2).drv.staged = 160 := by decide +kernel

theorem witness_FrameBytesAreTheFrame :
    let l : Link := { coldLink with sending := some (.stored .park 0) }
    (ready 500).power = .running ∧ (List.replicate 47 (0 : Byte)).length ≤ 47 ∧
    (ready 500).link.parser = { state := .hunt, length := 0, bytes := [], crc := 0xFF, gapTimer := none } ∧
    (0x85 : Byte) ≠ crc8 [0x03, 0x06, 0x00, 0x06] ∧
    (coldLink.sending = none ∧ l.sending = some (.stored .park 0) ∧ (reportBytes (.stored .park 0))[0]? = some 0x5A ∧
      sendMicros (.stored .park 0) ≤ 80) ∧
    (∀ f ∈ [List.replicate 42 (0 : Byte), [], [0], List.replicate 41 0, [0]], f.length ≤ 42) := by decide +kernel

/-- R148, R150: a field that does not fit in the 42 content bytes opens the next segment, and each frame repeats tag, kind and status. -/
theorem test_answer_is_segmented :
    reportPayloads (.answer 7 4 .done [List.replicate 41 1, [2], [3, 4]]) =
      [[7, 4, 0, 0, 2] ++ List.replicate 41 1 ++ [2], [7, 4, 0, 1, 2, 3, 4]] := by decide +kernel

theorem witness_ParserTable :
    let p := fun (x : ParserState) => ((ready 500).setParser { huntParser with state := x, gapTimer := some 1 })
    ((p .hunt).power = .running ∧ (p .hunt).link.parser.state = .hunt ∧ (0x5B : Byte) ≠ 0x5A) ∧
    ((p .length).link.parser.state = .length ∧ 49 ≤ (49 : Byte).toNat ∧ 1 ≤ (48 : Byte).toNat ∧ (48 : Byte).toNat ≤ 48) ∧
    (p .body).link.parser.state = .body ∧ ((p .check).link.parser.state = .check ∧ (0 : Byte) ≠ (p .check).link.parser.crc) ∧
    ((p .check).link.parser.gapTimer ≠ none ∧ (ready 500).link.parser.gapTimer = none) := by decide +kernel

theorem witness_ReportQueueing :
    let r : Report := .stored .park 0
    let l : Link := { coldLink with sending := some r, urgent := [r], routine := [r], urgentRun := 8 }
    (l.sending = some r ∧ l.urgent = r :: [] ∧ l.routine = r :: []) ∧
    (¬((ready 500).globals.wrr = .strict ∨ 8 < Weight.code (ready 500).globals.wrr) ∧
      7 < Weight.code (ready 500).globals.wrr) ∧
    ((ready 500).link.sending = none ∧ (ready 500).link.urgent = [] ∧ (ready 500).link.routine = []) := by decide +kernel

theorem witness_SupplySampleMonitor :
    ((ready 500).power = .running ∧ 5500 ≤ 5500) ∧
    (¬((ready 500).supply.sag = true ∧ (ready 500).globals.uSag ≤ 9000) ∧
      ¬((ready 500).supply.cutCount = 19 ∧ 9000 < (ready 500).globals.uCut)) ∧
    (waiting.supply.sag = true ∧ waiting.globals.uSag ≤ 9000 ∧ waiting.globals.uCut ≤ 9000) := by decide +kernel

theorem witness_SupplyCutTurnsOff :
    let s : State := { closing 900 with supply := { startSupply with value := 6999, cutCount := 19 } }
    let r : State := s.modCtl 2 fun k => { k with reversalOpen := true, streak := (s.slice 2).cfg.nHeld }
    (s.power = .running ∧ 5500 ≤ 6999 ∧ 6999 < s.globals.uCut ∧ 6999 < s.globals.uSag) ∧ s.supply.cutCount = 19 ∧
    (s.slice 2).ctl.motion ∈ [Motion.closing, .opening, .reversing, .braking] ∧
    (s.slice 3).ctl.motion ∉ [Motion.closing, .opening, .reversing, .braking] ∧ (s.slice 2).drv.mode ≠ .off ∧
    (closing 900).supply.cutCount ≠ 19 ∧ (r.slice 2).ctl.beginsHeld (r.slice 2).cfg = true := by decide +kernel

theorem witness_SharedTimersRunOut :
    (ready 500).power = .running ∧ (ready 500).vehicle.speedTimer = none ∧
    (after (.vehicle [0, 0, 50, 8]) (ready 500)).vehicle.speedTimer ≠ none := by decide +kernel

theorem witness_AccelerationReading :
    ((ready 500).power = .running ∧ ((ready 500).motion.failed = true → (ready 500).motion.limitCount = 50)) ∧
    (let m : BodyMotion := { rest := some 0, dlev := 0, limitCount := 49, failed := false }
     (m.failed = true → m.limitCount = 50) ∧ (max (-8000) (min 8000 (9000 : Int)) = 8000 ∧ 49 ≤ m.limitCount) ∧
      m.rest = some 0) ∧ (ready 500).motion.rest = none := by decide +kernel

theorem witness_OvercurrentChecks :
    ((ready 500).power = .running ∧ ((ready 500).slice 2).drv.mode = .off ∧ 37999 < 38000) ∧
    (((closing 900).slice 2).drv.mode ≠ .off ∧ 38000 ≤ 38000 ∧ ((closing 900).slice 2).ctl.overcurrent < 4) ∧
    (let s := (closing 900).modCtl 2 fun k => { k with overcurrent := 4 }
     (s.slice 2).drv.mode ≠ .off ∧ (s.slice 2).ctl.overcurrent = 4 ∧ s.queue = [] ∧ (s.slice 2).arb.held = true) ∧
    (let s := (reversing 900 2096).modCtl 2 fun k => { k with overcurrent := 4, streak := ((ready 500).slice 2).cfg.nHeld }
     (s.slice 2).drv.mode ≠ .off ∧ (s.slice 2).ctl.beginsHeld (s.slice 2).cfg = true ∧ s.queue = []) := by decide +kernel

theorem witness_RunCreditByState :
    let at0 := (opening 900).modCtl 2 fun k => { k with credit := 0 }
    ((closing 900).power = .running ∧ ((closing 900).slice 2).ctl.motion = .closing) ∧
    (((opening 900).slice 2).ctl.motion = .opening ∧ 2 ≤ ((opening 900).slice 2).ctl.credit) ∧
    ((at0.slice 2).ctl.motion = .opening ∧ (at0.slice 2).ctl.credit ≤ 1 ∧ (at0.slice 2).ctl.credit = 0 ∧
      (at0.slice 2).drv.mode = .drive) ∧
    (((ready 500).slice 2).ctl.motion = .idle ∧
      ((ready 500).slice 2).ctl.recovery + 1 < ((ready 500).slice 2).cfg.recover) ∧
    (let s := (ready 500).modCtl 2 fun k => { k with recovery := 3 }
     (s.slice 2).cfg.recover ≤ (s.slice 2).ctl.recovery + 1) ∧
    ((braking 900 .goIdle).slice 2).ctl.motion = .braking := by decide +kernel

theorem witness_RampAndPeriodBoundary :
    ((ready 500).power = .running ∧ ((ready 500).slice 2).drv.mode ≠ .drive) ∧
    ((closing 260).slice 2).drv.mode = .drive ∧ 64 ≤ ((closing 260).slice 2).drv.staged ∧
    ((closing 260).slice 2).drv.staged ≤ 255 ∧ ((closing 260).slice 2).drv.dir = some .closing ∧
    (((opening 900).slice 2).drv.mode = .drive ∧ ((opening 900).slice 2).drv.dir = some .opening) ∧
    (((ready 500).slice 2).drv.mode = .off ∧ ((braking 900 .goIdle).slice 2).drv.mode = .brake) := by decide +kernel

theorem witness_HoldAndHeldExpiry :
    let manual := fun (s : State) => s.modCtl 2 fun k => { k with holdTimer := some 0, heldTimer := some 0, held := true }
    ((ready 500).power = .running ∧ ((ready 500).slice 2).ctl.holdTimer = none ∧
      ((ready 500).slice 2).ctl.heldTimer = none) ∧
    ((waiting.slice 2).ctl.holdTimer ≠ none ∧ (waiting.slice 2).ctl.motion = .waiting) ∧
    (((manual (closing 900)).slice 2).ctl.holdTimer ≠ none ∧ ((manual (closing 900)).slice 2).ctl.motion = .closing ∧
      ((manual (closing 900)).slice 2).drv.mode = .drive ∧ ((manual (closing 900)).slice 2).ctl.heldTimer ≠ none) ∧
    (((manual (braking 900 .requeue)).slice 2).ctl.motion = .braking ∧
      ((manual (braking 900 .requeue)).slice 2).ctl.afterBrake = .requeue) ∧
    ((manual (braking 900 .goIdle)).slice 2).ctl.afterBrake ≠ .requeue ∧
    ((manual (ready 500)).slice 2).ctl.motion = .idle := by decide +kernel

theorem witness_BrakeQuietByAction :
    let quietable := fun (s : State) => (s.slice 2).drv.silence ≠ none ∧ (s.slice 2).drv.brakeLimit ≠ none ∧
      (s.slice 2).ctl.motion = .braking ∧ (s.slice 2).drv.mode = .brake ∧ (s.slice 2).arb.held = true ∧ s.queue = []
    let aimed := fun (t : Nat) => (braking 900 .reverse).modCtl 2 fun k => { k with reversalOpen := true, reversalTarget := t }
    let record := fun (mode : MoveMode) (dir : Dir) (n : Nat) => ({ mode := mode, dir := dir, target := n, source := .body } : Move)
    let pending := fun (m : Move) => (braking 900 .requeue).modCtl 2 fun k => { k with slot := some m, holdTimer := some 1 }
    let settled := fun (s : State) (m : Move) => settle (s.slice 2).cfg.travel (s.slice 2).trk.position m.mode m.dir m.target m.source
    let refused := fun (s : State) (m : Move) =>
      refusal (s.slice 2).cfg (s.slice 2).trk.referenced { (s.slice 2).ctl with motion := .idle } (settled s m)
    let close := record .manual .closing 0
    let near := record .target .opening 901
    ((ready 500).power = .running ∧ ((ready 500).slice 2).drv.silence = none ∧ ((ready 500).slice 2).drv.brakeLimit = none) ∧
    (quietable (braking 900 .goIdle) ∧ ((braking 900 .goIdle).slice 2).ctl.afterBrake = .goIdle) ∧
    (quietable (aimed 900) ∧ ((aimed 900).slice 2).ctl.afterBrake = .reverse ∧
      (((aimed 900).slice 2).ctl.reversalTarget : Int) ≤ ((aimed 900).slice 2).trk.position) ∧
    (quietable (aimed 901) ∧ ((aimed 901).slice 2).trk.position < (((aimed 901).slice 2).ctl.reversalTarget : Int)) ∧
    (quietable (pending close) ∧ ((pending close).slice 2).ctl.afterBrake = .requeue ∧
      ((pending close).slice 2).ctl.slot = some close ∧ (pending close).isQueued 2 = false ∧
      refused (pending close) close = none ∧ settled (pending close) close = .move close) ∧
    (pending close).supply.sag = false ∧ (pending close).chargeSum + ((pending close).slice 2).cfg.iStart ≤
      (pending close).globals.budget + ((pending close).slice 2).arb.charge ∧
    (refused (pending near) near = none ∧ settled (pending near) near = .null .target) ∧
    (let s := (pending (record .express .closing 0)).modTrk 2 fun k => { k with referenced := false }
     refused s (record .express .closing 0) = some .refusedUnref) ∧
    (let s : State :=
      { (braking 900 .goIdle).modCtl 3 fun k => { k with motion := .waiting, move := some close } with
        queue := [{ channel := 3, passes := 3 }] }
     (s.slice 3).ctl.motion = .waiting ∧ (s.slice 3).ctl.move = some close ∧ (s.slice 3).drv.mode = .off ∧
      s.supply.sag = false ∧ (s.slice 2).arb.held = true ∧
      s.chargeSum + (s.slice 3).cfg.iStart ≤ s.globals.budget + (s.slice 2).arb.charge) := by decide +kernel

theorem witness_StallExpiryByState :
    let live := fun (s : State) => (s.slice 2).vdu.stallTimer ≠ none ∧ (s.slice 2).drv.mode = .drive
    ((ready 500).power = .running ∧ ((ready 500).slice 2).vdu.stallTimer = none) ∧
    (let s := (ready 500).modVdu 2 fun v => { v with stallTimer := some 0 }
     (s.slice 2).vdu.stallTimer ≠ none ∧ ¬isDriven (s.slice 2).ctl.motion) ∧
    (live (closing 60) ∧ ((closing 60).slice 2).ctl.motion = .closing ∧
      ((closing 60).slice 2).trk.position ≤ (((closing 60).slice 2).cfg.sealBand : Int)) ∧
    (live (opening 3160) ∧ ((opening 3160).slice 2).ctl.motion = .opening ∧
      (((opening 3160).slice 2).cfg.travel : Int) - ((opening 3160).slice 2).cfg.openTol ≤
        ((opening 3160).slice 2).trk.position) ∧
    (live (opening 3159) ∧ ((opening 3159).slice 2).trk.position <
      (((opening 3159).slice 2).cfg.travel : Int) - ((opening 3159).slice 2).cfg.openTol) ∧
    (((opening 3159).slice 2).ctl.reversalOpen = false ∧ ((opening 3159).slice 2).ctl.move ≠ none) ∧
    (let s := (opening 3159).modCtl 2 fun k => { k with move := none }
     live s ∧ (s.slice 2).ctl.motion = .opening ∧ (s.slice 2).ctl.move = none) ∧
    (let s := (reversing 900 2096).modCtl 2 fun k => { k with reversalOpen := false }
     live s ∧ (s.slice 2).ctl.motion = .reversing ∧ (s.slice 2).ctl.reversalOpen = false) ∧
    (live (reversing 900 2096) ∧ ((reversing 900 2096).slice 2).ctl.motion = .reversing ∧
      ((reversing 900 2096).slice 2).ctl.reversalOpen = true) := by decide +kernel

theorem witness_StallExpiryByState_notices :
    let inHeld := fun (s : State) => s.modCtl 2 fun k => { k with held := true, heldTimer := some 1 }
    let s := (inHeld (closing 500)).modTrk 2 fun k => { k with referenced := false }
    ((s.slice 2).vdu.stallTimer ≠ none ∧ (s.slice 2).drv.mode = .drive ∧ (s.slice 2).ctl.motion = .closing ∧
      (s.slice 2).trk.referenced = false ∧ (s.slice 2).ctl.held = true) ∧
    ((inHeld (opening 3160)).slice 2).ctl.held = true := by decide +kernel

theorem witness_BlankingExpiryScans :
    let manual : Move := { mode := .manual, dir := .closing, target := 0, source := .body }
    let s := (closing 900).modEst 2 fun e => { e with blankTimer := some 0 }
    let queued : State :=
      { s.modCtl 3 fun k => { k with motion := .waiting, move := some manual } with queue := [{ channel := 3, passes := 3 }] }
    let fallen := (queued.modEst 2 fun e => { e with blankTimer := none }).modArb 2 fun a =>
      { a with charge := a.runCharge, inBlanking := false }
    (s.power = .running ∧ ((ready 500).slice 2).est.blankTimer = none ∧ (s.slice 2).est.blankTimer ≠ none ∧
      (s.slice 2).arb.held = true ∧ s.queue = []) ∧
    (((s.modArb 2 Grant.release).slice 2).arb.held = false ∧ ((s.modArb 2 Grant.release).slice 2).est.blankTimer ≠ none) ∧
    (queued.supply.sag = false ∧ queued.queue = [{ channel := 3, passes := 3 }] ∧ (queued.slice 3).ctl.motion = .waiting ∧
      (queued.slice 3).ctl.move = some manual ∧ (queued.slice 3).drv.mode = .off ∧ (queued.slice 3).cfg.blank ≠ 0) ∧
    fallen.chargeSum + (queued.slice 3).cfg.iStart ≤ queued.globals.budget ∧
    (let tight : State := { queued with globals := { queued.globals with budget := 12999 } }
     tight.globals.budget < fallen.chargeSum + (queued.slice 3).cfg.iStart) := by decide +kernel

theorem witness_PassesAndBlocking :
    (∀ x ∈ [({ channel := 6, passes := 2 } : QueueEntry)], 30000 < 23500 + 12000 ∧ x.passes < 3) ∧
    (23500 + 5000 ≤ 30000 ∧ 3 ≤ 3 ∧ 30000 < 25000 + ([] : List Channel).length + 9000) := by decide

theorem witness_SampleFigures :
    let fits := fun (s : State) (ph : Phase) (pos : Int) =>
      s.power = .running ∧ (s.slice 2).est.phase = some ph ∧ (s.slice 2).ctl.motion ≠ .waiting ∧
      invalidCount (s.slice 2).trk.history ≤ 3 ∧ (s.slice 2).trk.referenced = true ∧
      (s.slice 2).trk.hall = { a := false, b := false } ∧ (s.slice 2).est.sampleNo ≠ 0 ∧ (s.slice 2).est.filter = some 357 ∧
      -16 ≤ pos ∧ pos ≤ ((s.slice 2).cfg.travel : Int) + 16
    let goesOn := fun (s : State) (ph : Phase) (a b : Bool) =>
      ((after (.hallTransition 2 a b) s).slice 2).est.phase = some ph
    let tapped : State :=
      { (closing 900).modEst 2 fun e => { e with blankTimer := some 1 } with
        tap := { channel := some 2, phases := { closing := true, opening := false, reversing := false }, skipped := 7 } }
    (fits (closing (-15)) .closing (-15 - 1) ∧ true = !false ∧ false = false) ∧
    (fits (reversing 3215 3200) .reversing (3215 + 1) ∧ false = false ∧ true = !false) ∧
    (let s := (opening 32766).modTrk 2 fun k => { k with referenced := false }
     (s.slice 2).est.phase = some .opening ∧ (s.slice 2).trk.position + 1 ≤ 32767) ∧
    (fits (closing 900) .closing 899 ∧ goesOn (closing 900) .closing true false ∧
      ((closing 900).slice 2).prf.record = some (openRecord 3160 true false)) ∧
    (goesOn tapped .closing true false ∧ tapped.tap.channel = some 2 ∧ tapped.tap.phases.closing = true ∧
      tapped.link.routine.length ≤ 20 ∧ (tapped.slice 2).est.blankTimer ≠ none ∧ (tapped.slice 2).cfg.blank ≤ 31 ∧
      (tapped.slice 2).arb.held = true ∧ tapped.queue = []) ∧
    (let full : State := { tapped with
        link := { tapped.link with routine := List.replicate 21 (.stored .park 0), sending := some (.stored .park 0) } }
     goesOn full .closing true false ∧ 20 < full.link.routine.length) := by decide +kernel

theorem witness_VerdictTests :
    let x : Slot := { position := 900, residue := 128, tl := 109, cls := .trip, valid := true }
    1 ≤ (defaultChannelSettings 2).k ∧ (hitSet .run 1 [x]).isSome = true ∧ (hitSet .count 1 [x]).isSome = true ∧
    (hitSet .rise 2 [x, { x with residue := 127, cls := .watch }]).isSome = true := by decide +kernel

theorem witness_PinchBrakesAndReverses :
    let edged := fun (s : State) (pos : Int) =>
      (s.slice 2).ctl.motion = .closing ∧ (s.slice 2).drv.mode = .drive ∧ (s.slice 2).est.phase = some .closing ∧
      countsIn .closing (s.slice 2).trk.hall true false ∧ invalidCount (s.slice 2).trk.history ≤ 3 ∧
      positionAfter .closing (s.slice 2).trk.position = pos ∧ (s.slice 2).mayReach pos ∧
      (s.slice 2).ctl.move.map Move.mode = some .express
    ((ready 500).power = .running ∧ ((ready 500).slice 2).ctl.motion ≠ .closing) ∧
    (((closing 61).slice 2).ctl.motion = .closing ∧ ((closing 61).slice 2).drv.mode = .drive ∧
      ((closing 61).slice 2).vdu.stallTimer ≠ none ∧ ((closing 61).slice 2).trk.referenced = true) ∧
    (((closing 61).slice 2).cfg.sealBand : Int) < ((closing 61).slice 2).trk.position ∧
    (((closing 61).slice 2).ctl.reversalOpen = false ∧ ((closing 61).slice 2).ctl.move ≠ none ∧
      ((closing 61).slice 2).prf.record ≠ none) ∧
    (edged (closing (-15)) (-16) ∧
      ((after (.hallTransition 2 true false) (closing (-15))).slice 2).ctl = ((closing (-15)).slice 2).ctl) ∧
    (edged fingered 1494 ∧ fingered.tap.channel ≠ some 2 ∧ fingered.isQueued 2 = false ∧
      ((after (.hallTransition 2 true false) fingered).slice 2).ctr.a.value =
        (fingered.slice 2).ctr.a.value ∧
      ((after (.hallTransition 2 true false) fingered).slice 2).ctl.reversalOpen = true) := by decide +kernel

theorem witness_ClosedEndLearns :
    (closing 60).power = .running ∧ ((closing 60).slice 2).ctl.motion = .closing ∧
    ((closing 60).slice 2).vdu.stallTimer ≠ none ∧ ((closing 60).slice 2).prf.record = some (openRecord 3160 true false) ∧
    ((closing 60).slice 2).trk.position ≤ (((closing 60).slice 2).cfg.sealBand : Int) := by decide +kernel

/-- R112, R113: of three zones the run does not update, a LEARNED one of age AGE_RUNS goes STALE, a STALE one of age 4 × AGE_RUNS goes
EMPTY, and both are counted. -/
theorem test_closed_end_counts_aged_zones :
    let s := (closing 60).modPrf 2 fun p =>
      { p with
        runCounter := 999
        zones := ((p.zones.set 40 { state := .learned, baseline := 200, spread := 8, stamp := 960, tz := 20 }).set 41
          { state := .stale, baseline := 200, spread := 8, stamp := 840, tz := 20 }).set 42
          { state := .learned, baseline := 200, spread := 8, stamp := 961, tz := 20 } }
    let last := ((after (.stallExpiry 2) s).slice 2).prf.lastRun
    last.runCounter = 1000 ∧ last.madeStale = 1 ∧ last.madeEmpty = 1 := by decide +kernel

theorem witness_ZonesOfTheTravel :
    (64 ≤ 64 ∧ (-1 : Int) < 0) ∧ ((64 : Nat) : Int) ≤ 64 ∧ (0 ≤ (63 : Int) ∧ (63 : Int) < (64 : Nat)) ∧ zoneOf 64 63 = 63 := by
  decide

/-- A state that is no reset state and meets every law, with a command that a step takes. -/
theorem witness_StepKeepsLaws :
    let s : State := { closing 800 with pending := [.stallExpiry 2] }
    s.MotionLaw ∧ s.BudgetLaw ∧ s.PositionLaw ∧ s.CreditLaw ∧ s.CapacityLaw ∧ s.log.TagLaw ∧ s.MarkLaw := by decide +kernel

theorem witness_StepKeepsLaws_more :
    let s : State := { closing 800 with pending := [.stallExpiry 2] }
    s.LearningLaw ∧ s.SensorLaw ∧ s.PrivilegeLaw ∧
      ∀ diff, s.pending.head? = some (.writePhaseEnd diff) → ∀ b ∈ diff, b = 0 := by
  refine ⟨by decide +kernel, by decide +kernel, ⟨by decide +kernel, by decide +kernel, ?_⟩, ?_⟩
  · intro op x h; cases h
  · intro diff h; cases h

theorem witness_StepKeepsLaws_step :
    let s : State := { closing 800 with pending := [.stallExpiry 2] }
    ∃ t, step s = .next t ∧ t.pending = [] := ⟨_, rfl, rfl⟩

end Sys2Proof.Tests
end

section
/-! SUPPORT. What the functions of the verdict (05_the_verdict.md) answer: the tests of the three modes as statements about the ages of
the window, the hit set they give, and the figures a record takes from a hit set. -/

namespace Sys2Proof.Machine.VerdictRules

/-! ### Slots and windows -/

theorem isHit_iff (x : Slot) : x.isHit = true ↔ x.valid = true ∧ x.cls = .trip := by
  simp [Slot.isHit]

theorem isRise_iff (x : Slot) :
    x.isRise = true ↔ x.valid = true ∧ (x.cls = .watch ∨ x.cls = .trip) := by
  simp [Slot.isRise]

theorem decide_hit_eq_isHit (x : Slot) : decide (x.valid = true ∧ x.cls = .trip) = x.isHit := by
  simp [Slot.isHit]

/-- A test of the newest `k` slots, read age by age. -/
theorem all_take_iff (p : Slot → Bool) (k : Nat) (w : List Slot) :
    (w.take k).all p = true ↔ ∀ j x, j < k → w[j]? = some x → p x = true := by
  simp only [List.all_eq_true, List.mem_iff_getElem?, List.getElem?_take, Option.ite_none_right_eq_some]
  exact ⟨fun h j x hj hx => h x ⟨j, hj, hx⟩, fun h x ⟨j, hj, hx⟩ => h j x hj hx⟩

/-- R95: no residue is above that of the next younger slot. -/
theorem risingSlots_iff (w : List Slot) :
    risingSlots w = true ↔ ∀ j x y, w[j]? = some x → w[j + 1]? = some y → y.residue ≤ x.residue := by
  induction w with
  | nil => simp [risingSlots]
  | cons x rest ih =>
    cases rest with
    | nil => simp [risingSlots]
    | cons y rest =>
      rw [risingSlots, Bool.and_eq_true, ih, decide_eq_true_iff]
      constructor
      · rintro ⟨hxy, hrest⟩ (_ | j) a b ha hb
        · obtain ⟨rfl, rfl⟩ : x = a ∧ y = b := by simpa using And.intro ha hb
          exact hxy
        · exact hrest j a b ha hb
      · exact fun h => ⟨h 0 x y rfl rfl, fun j a b ha hb => h (j + 1) a b ha hb⟩

theorem risingSlots_take_iff (k : Nat) (w : List Slot) :
    risingSlots (w.take k) = true ↔
      ∀ j x y, j + 1 < k → w[j]? = some x → w[j + 1]? = some y → y.residue ≤ x.residue := by
  simp only [risingSlots_iff, List.getElem?_take, Option.ite_none_right_eq_some]
  exact ⟨fun h j x y hj hx hy => h j x y ⟨by omega, hx⟩ ⟨hj, hy⟩,
    fun h j x y ⟨_, hx⟩ ⟨hj, hy⟩ => h j x y hj hx hy⟩

/-! ### The ages of the hits -/

theorem mem_hitAges (a j : Nat) (w : List Slot) :
    j ∈ hitAges a w ↔ ∃ i x, j = a + i ∧ w[i]? = some x ∧ x.isHit = true := by
  induction w generalizing a with
  | nil => simp [hitAges]
  | cons y rest ih =>
    have ages_cons : j ∈ hitAges a (y :: rest) ↔ (j = a ∧ y.isHit = true) ∨ j ∈ hitAges (a + 1) rest := by
      cases hy : y.isHit <;> simp [hitAges, hy]
    rw [ages_cons, ih]
    constructor
    · rintro (⟨rfl, hy⟩ | ⟨i, x, rfl, hx, hit⟩)
      · exact ⟨0, y, rfl, rfl, hy⟩
      · exact ⟨i + 1, x, by omega, hx, hit⟩
    · rintro ⟨_ | i, x, rfl, hx, hit⟩
      · obtain rfl : y = x := by simpa using hx
        exact .inl ⟨rfl, hit⟩
      · exact .inr ⟨i, x, by omega, hx, hit⟩

theorem length_hitAges (a : Nat) (w : List Slot) : (hitAges a w).length = (w.filter Slot.isHit).length := by
  induction w generalizing a with
  | nil => rfl
  | cons x rest ih => cases hx : x.isHit <;> simp [hitAges, hx, ih]

/-! ### The three tests (R93 to R95) -/

theorem hitSet_run_eq_some (k : Nat) (w : List Slot) (m : List Nat) :
    hitSet .run k w = some m ↔
      (k ≤ w.length ∧ ∀ j x, j < k → w[j]? = some x → x.isHit = true) ∧ List.range k = m := by
  simp only [hitSet, all_take_iff, Option.ite_none_right_eq_some, Option.some.injEq]

theorem hitSet_count_eq_some (k : Nat) (w : List Slot) (m : List Nat) :
    hitSet .count k w = some m ↔ k ≤ (w.filter Slot.isHit).length ∧ hitAges 0 w = m := by
  simp only [hitSet, length_hitAges, Option.ite_none_right_eq_some, Option.some.injEq]

theorem hitSet_rise_eq_some (k : Nat) (w : List Slot) (m : List Nat) :
    hitSet .rise k w = some m ↔
      (k ≤ w.length ∧ (∀ j x, j < k → w[j]? = some x → x.isRise = true) ∧
        ∀ j x y, j + 1 < k → w[j]? = some x → w[j + 1]? = some y → y.residue ≤ x.residue) ∧
      List.range k = m := by
  simp only [hitSet, all_take_iff, risingSlots_take_iff, Option.ite_none_right_eq_some, Option.some.injEq]

/-- The ages RUN and RISE take. -/
theorem mem_hitSet_run_or_rise {k : Nat} {w : List Slot} {m : List Nat}
    (h : hitSet .run k w = some m ∨ hitSet .rise k w = some m) (j : Nat) : j ∈ m ↔ j < k := by
  rw [hitSet_run_eq_some, hitSet_rise_eq_some, ← or_and_right] at h
  rw [← h.2, List.mem_range]

/-- The ages COUNT takes. -/
theorem mem_hitSet_count {k : Nat} {w : List Slot} {m : List Nat} (h : hitSet .count k w = some m) (j : Nat) :
    j ∈ m ↔ ∃ x, w[j]? = some x ∧ x.isHit = true := by
  obtain ⟨-, rfl⟩ := (hitSet_count_eq_some k w m).1 h
  simp [mem_hitAges]

/-- A test for one slot or more that passes has a hit to record. -/
theorem hitSet_ne_nil {mode : AggMode} {k : Nat} {w : List Slot} {m : List Nat} (hk : 1 ≤ k)
    (h : hitSet mode k w = some m) : m ≠ [] := by
  cases mode with
  | run => exact List.ne_nil_of_mem ((mem_hitSet_run_or_rise (.inl h) 0).2 hk)
  | rise => exact List.ne_nil_of_mem ((mem_hitSet_run_or_rise (.inr h) 0).2 hk)
  | count =>
    obtain ⟨hlen, rfl⟩ := (hitSet_count_eq_some k w m).1 h
    rw [← length_hitAges 0] at hlen
    exact List.ne_nil_of_length_pos (by omega)

theorem lt_length_of_mem_hitSet {mode : AggMode} {k : Nat} {w : List Slot} {m : List Nat}
    (h : hitSet mode k w = some m) {j : Nat} (hj : j ∈ m) : j < w.length := by
  cases mode with
  | run =>
    have hjk := (mem_hitSet_run_or_rise (.inl h) j).1 hj
    obtain ⟨⟨hlen, -⟩, -⟩ := (hitSet_run_eq_some k w m).1 h
    exact Nat.lt_of_lt_of_le hjk hlen
  | rise =>
    have hjk := (mem_hitSet_run_or_rise (.inr h) j).1 hj
    obtain ⟨⟨hlen, -⟩, -⟩ := (hitSet_rise_eq_some k w m).1 h
    exact Nat.lt_of_lt_of_le hjk hlen
  | count =>
    obtain ⟨x, hx, -⟩ := (mem_hitSet_count h j).1 hj
    exact (List.getElem?_eq_some_iff.1 hx).1

/-! ### The figures of a record (R96) -/

/-- The flag of age `i` stands at weight 2^i. -/
theorem getLsbD_ageFlag (i : Nat) {j : Nat} (hj : j < 16) :
    ((1 <<< i : Nat) : BitVec 16).getLsbD j = true ↔ j = i := by
  rw [BitVec.natCast_eq_ofNat, BitVec.getLsbD_ofNat, Nat.one_shiftLeft, Nat.testBit_two_pow]
  simp [hj, eq_comm]

theorem getLsbD_hitMask_foldl (ages : List Nat) (m : BitVec 16) {j : Nat} (hj : j < 16) :
    (ages.foldl (fun (m : BitVec 16) i => m ||| ((1 <<< i : Nat) : BitVec 16)) m).getLsbD j = true ↔
      m.getLsbD j = true ∨ j ∈ ages := by
  induction ages generalizing m with
  | nil => simp
  | cons i rest ih =>
    rw [List.foldl_cons, ih, BitVec.getLsbD_or, Bool.or_eq_true, getLsbD_ageFlag i hj, List.mem_cons, or_assoc]

theorem getLsbD_hitMaskOf (ages : List Nat) {j : Nat} (hj : j < 16) :
    (hitMaskOf ages).getLsbD j = true ↔ j ∈ ages :=
  (getLsbD_hitMask_foldl ages 0 hj).trans (by simp)

theorem max?_eq_hitIndexOf {ages : List Nat} (h : ages ≠ []) : ages.max? = some (hitIndexOf ages) := by
  cases ages with
  | nil => exact absurd rfl h
  | cons a rest => rw [List.max?_cons', hitIndexOf, List.foldl_cons, Nat.zero_max]

theorem hitIndexOf_mem {ages : List Nat} (h : ages ≠ []) : hitIndexOf ages ∈ ages :=
  List.max?_mem (max?_eq_hitIndexOf h)

theorem le_hitIndexOf {ages : List Nat} {j : Nat} (hj : j ∈ ages) : j ≤ hitIndexOf ages :=
  (List.max?_eq_some_iff.1 (max?_eq_hitIndexOf (List.ne_nil_of_mem hj))).2 j hj

/-! ### The band verdict of a sample (R92, R96) -/

theorem bandVerdict_isSome_iff (cfg : ChannelSettings) (decided : Bool) (w : List Slot) (x : Sample) :
    (bandVerdict cfg decided w x).isSome = true ↔
      x.phase = .closing ∧ decided = false ∧ (slotOf x).isHit = true ∧ ∃ m, hitSet cfg.mode cfg.k w = some m := by
  unfold bandVerdict
  cases hitSet cfg.mode cfg.k w <;> simp

theorem bandVerdict_records {cfg : ChannelSettings} {decided : Bool} {w : List Slot} {x : Sample} {y : Verdict}
    {m : List Nat} (hk : 1 ≤ cfg.k) (hy : bandVerdict cfg decided w x = some y)
    (hm : hitSet cfg.mode cfg.k w = some m) : y.records cfg.mode w m x := by
  have index_mem := hitIndexOf_mem (hitSet_ne_nil hk hm)
  have index_lt := lt_length_of_mem_hitSet hm index_mem
  simp only [bandVerdict, hm, Option.ite_none_right_eq_some, Option.some.injEq] at hy
  obtain ⟨-, rfl⟩ := hy
  refine ⟨rfl, rfl, rfl, rfl, rfl, rfl, rfl, fun j hj => getLsbD_hitMaskOf m hj, index_mem,
    fun j => le_hitIndexOf, rfl, ?_, rfl, rfl, rfl, rfl, rfl⟩
  simp [index_lt]

/-! ### Levels and tags (R87 to R90) -/

theorem validTag_iff (cfg : ChannelSettings) (x : Sample) :
    validTag cfg x = true ↔
      cfg.blank < x.number ∧ x.first = false ∧ (cfg.sealBand : Int) < x.position ∧ x.referenced = true := by
  simp [validTag, and_assoc]

theorem zoneSpread_eq (z : ZoneRecord) : zoneSpread z = if z.state = .empty then 0 else z.spread := by
  unfold zoneSpread
  cases z.state <;> rfl

/-- R88: only a sample of a closing phase is classed. -/
theorem classOf_of_ne_closing {ph : Phase} (h : ph ≠ .closing) (residue : Int) (tl : Nat) :
    classOf ph residue tl = .none := by
  cases ph with
  | closing => exact absurd rfl h
  | opening | reversing => rfl

/-! ### The statement -/

/-- Settles O51, clause by clause: the levels and tags of `completeSample`, the tests of `hitSet`, and the verdict of `afterSample`.
The record's position at the highest age is one of the window's, for every age of a hit set is below the window's length. -/
theorem verdictTests : Obligations.VerdictTests := by
  refine ⟨fun cfg dRough held x => ?levels, fun w k hk => ?tests, fun v cfg x hk => ?verdict⟩
  case levels =>
    refine ⟨?_, rfl, ?_, ?_, validTag_iff cfg x, decide_eq_true_iff⟩
    · simp only [completeSample, tripLevel, zoneSpread_eq]
      cases x.record.state <;> rfl
    · exact fun h => classOf_of_ne_closing h _ _
    · intro h
      simp only [completeSample, h, classOf]
  case tests =>
    refine ⟨?_, ?_, ?_, fun m => mem_hitSet_run_or_rise, ?_⟩
    · simp [hitSet_run_eq_some, isHit_iff]
    · simp only [hitSet_count_eq_some, exists_eq_right', decide_hit_eq_isHit]
    · simp [hitSet_rise_eq_some, isRise_iff]
    · intro m h j
      simp [mem_hitSet_count h j, isHit_iff]
  case verdict =>
    refine ⟨rfl, ?_, fun y m => bandVerdict_records hk⟩
    exact (bandVerdict_isSome_iff ..).trans (by simp [isHit_iff, slotOf, windowPush, and_assoc])

end Sys2Proof.Machine.VerdictRules
end

section
/-! SUPPORT. What the reference profiles (06_reference_profiles.md) become: the figures of a run processed at the closed end, zone by
zone (R108 to R113), the way of a stall expiry to the processing of the run, and a FORGET (R116) from its frame to its answer. -/

namespace Sys2Proof.Machine.ProfileRules

/-! ### The two commands, on an operating part -/

theorem exec_forget (p : List Byte) (s : State) : exec (.forget p) s = execForget p s := rfl

theorem exec_stallExpiry (c : Channel) (s : State) : exec (.stallExpiry c) s = execStallExpiry c s := rfl

theorem whenRunning_eq {s : State} (f : State → State) (h : s.power = .running) : s.whenRunning f = f s := by
  simp [State.whenRunning, h]

/-! ### From a frame to the block that owns it (R132, R137, R144) -/

/-- R144: a frame of a known kind and of the catalogue's length is counted, then taken by the source filter. -/
theorem takeFrame_wellFormed (s : State) {b : Byte} {k : RequestKind} {p : List Byte}
    (hk : requestKindOfByte b = some k) (hp : p.length = payloadLength k) :
    s.takeFrame b p = s.counted.takeRequest k p := by
  simp [State.takeFrame, hk, hp, State.counted]

/-- R137: a request of a privileged source, whatever its kind, reaches the block that owns it. -/
theorem takeRequest_privileged (s : State) (k : RequestKind) (p : List Byte) (h : s.privileged (byteAt p 1)) :
    ∃ q, sourceOfByte (byteAt p 1) = some q ∧ s.takeRequest k p = s.carryOut k p q := by
  obtain ⟨q, hq, hpriv⟩ := Option.map_eq_some_iff.1 h
  exact ⟨q, hq, by simp [State.takeRequest, hq, hpriv]⟩

theorem channelOfByte_channelByte (c : Channel) : channelOfByte (channelByte c) = some c := by
  revert c; decide

theorem channelOfByte_eq_none {b : Byte} (h : 8 ≤ b.toNat) : channelOfByte b = none :=
  dif_neg (Nat.not_lt.2 h)

/-! ### FORGET (R103, R107, R116) -/

/-- A FORGET of a privileged source is carried out by the profile table. -/
theorem exec_forget_privileged {s : State} (tag src chan : Byte) (hrun : s.power = .running) (hsrc : s.privileged src) :
    exec (.forget [tag, src, chan]) s = .next (s.counted.carryForget [tag, src, chan]) := by
  obtain ⟨q, -, hcarry⟩ := takeRequest_privileged s.counted .forget [tag, src, chan] hsrc
  rw [exec_forget, execForget, whenRunning_eq _ hrun, takeFrame_wellFormed s rfl rfl, hcarry, State.carryOut]

theorem getElem_emptyZones (z : Fin 64) :
    emptyZones[z] = { state := .empty, baseline := 0, spread := 0, stamp := 0, tz := 20 } := by
  simp [emptyZones, emptyZone]

theorem forget_lastRun_of_record {p : Profile} {r : RunRecord} (h : p.record = some r) :
    p.forget.lastRun = droppedRun .discarded r.startPos p.runCounter := by
  simp [Profile.forget, forgottenRun, h]

/-- Settles O28: the frame reaches `carryForget`, which passes the profile through `Profile.forget` and answers. -/
theorem forgetEmptiesProfile : Obligations.ForgetEmptiesProfile := by
  intro s c tag src chan hrun hsrc
  refine ⟨⟨(s.counted.modPrf c Profile.forget).answer tag .forget .done [], ?carried, ?frame, ?zones, ?record, ?counter,
    ?last⟩, ?malformed⟩
  case carried =>
    rw [exec_forget_privileged tag src _ hrun hsrc]
    simp [State.carryForget, byteAt, channelOfByte_channelByte, State.answerPlain]
  case malformed =>
    intro hchan
    rw [exec_forget_privileged tag src _ hrun hsrc]
    simp [State.carryForget, byteAt, channelOfByte_eq_none hchan, State.answerPlain]
  all_goals rw [State.answer_slice, State.slice_modPrf_same]
  case frame => rfl
  case zones => exact getElem_emptyZones
  case record => rfl
  case counter => rfl
  case last => exact fun r hr => forget_lastRun_of_record hr

/-! ### The way of a stall expiry to the end of a run (R29, R99, R107) -/

/-- Between `s` and `t` the run record `r` of a channel has been processed at the closed end: its profile is that of `Profile.runEnd`,
and its counter C has counted the zones updated. -/
def runProcessed (s t : State) (c : Channel) (r : RunRecord) : Prop :=
  let old := s.slice c
  let e := old.prf.runEnd old.cfg s.vehicle.temp r
  (t.slice c).prf = e.1 ∧ (t.slice c).ctr = { old.ctr with c := old.ctr.c.count .zoneUpdates e.2 }

theorem closeRun_runProcessed {s : State} {c : Channel} {r : RunRecord} (h : (s.slice c).prf.record = some r) :
    runProcessed s (s.closeRun c true) c r := by
  simp [runProcessed, State.closeRun, h, State.countEvents, State.temperature]

/-- What comes before the closing of the run touches neither profile, counters, settings nor the vehicle data. -/
theorem runProcessed_of_prepared {s u t : State} {c : Channel} {r : RunRecord} (h : runProcessed u t c r)
    (hprf : (u.slice c).prf = (s.slice c).prf) (hcfg : (u.slice c).cfg = (s.slice c).cfg)
    (hctr : (u.slice c).ctr = (s.slice c).ctr) (hveh : u.vehicle = s.vehicle) : runProcessed s t c r := by
  simpa only [runProcessed, hprf, hcfg, hctr, hveh] using h

theorem brake_runProcessed {s : State} {c : Channel} {r : RunRecord} (a : AfterBrake) (x : Reason)
    (h : (s.slice c).prf.record = some r) : runProcessed s (s.brake c a x true) c r := by
  unfold State.brake
  refine runProcessed_of_prepared (closeRun_runProcessed ?_) ?_ ?_ ?_ rfl <;> simp [State.endPhase, h]

theorem closedEnd_runProcessed {s : State} {c : Channel} {r : RunRecord} (h : (s.slice c).prf.record = some r) :
    runProcessed s (s.closedEnd c) c r := by
  have braked : runProcessed s (((s.modTrk c fun t => { t with position := 0, uncertainty := 0, referenced := true }).modCtl c
      Controller.reachEnd).brake c .goIdle .closedEnd true) c r := by
    refine runProcessed_of_prepared (brake_runProcessed _ _ ?_) ?_ ?_ ?_ rfl <;> simp [h]
  simpa [runProcessed, State.closedEnd] using braked

/-- R29: where the tracker does not place a closing channel above the seal band, its stall is the closed end. -/
theorem takeStall_closedEnd {s : State} {c : Channel} (hmotion : (s.slice c).ctl.motion = .closing)
    (hend : (s.slice c).trk.referenced = false ∨ (s.slice c).trk.position ≤ ((s.slice c).cfg.sealBand : Int)) :
    s.takeStall c = s.closedEnd c := by
  have no_pinch : ¬((s.slice c).trk.referenced = true ∧ ((s.slice c).cfg.sealBand : Int) < (s.slice c).trk.position) := by
    rintro ⟨href, hpos⟩
    rcases hend with hunref | hlow
    · simp [href] at hunref
    · omega
  simp only [State.takeStall, hmotion, if_neg no_pinch]

theorem exec_stallExpiry_runProcessed {s : State} {c : Channel} {r : RunRecord} (hrun : s.power = .running)
    (hmotion : (s.slice c).ctl.motion = .closing) (htimer : (s.slice c).vdu.stallTimer ≠ none)
    (hrec : (s.slice c).prf.record = some r)
    (hend : (s.slice c).trk.referenced = false ∨ (s.slice c).trk.position ≤ ((s.slice c).cfg.sealBand : Int)) :
    ∃ t, exec (.stallExpiry c) s = .next t ∧ runProcessed s t c r := by
  obtain ⟨n, hn⟩ := Option.ne_none_iff_exists'.1 htimer
  let u := s.modVdu c fun v => { v with stallTimer := none }
  refine ⟨u.closedEnd c, ?_, ?_⟩
  · rw [exec_stallExpiry, execStallExpiry, whenRunning_eq _ hrun, State.stallTimerExpiry, hn]
    exact congrArg _ (takeStall_closedEnd (by simpa [u] using hmotion) (by simpa [u] using hend))
  · refine runProcessed_of_prepared (closedEnd_runProcessed ?_) ?_ ?_ ?_ rfl <;> simp [u, hrec]

/-! ### The parts of a processed run (R108 to R112) -/

/-- R108: the first test a run fails. -/
theorem runFailure_eq (travel : Nat) (r : RunRecord) :
    runFailure travel r =
      if r.referencedAtStart = false ∨ r.unreferencedSeen = true then some .notReferenced
      else if r.heldAtStart = true then some .held
      else if r.verdictMark = true then some .verdict
      else if r.startPos < ((travel / 4 : Nat) : Int) then some .shortStart
      else none := by
  have unreferenced : ¬(r.referencedAtStart = true ∧ r.unreferencedSeen = false) ↔
      (r.referencedAtStart = false ∨ r.unreferencedSeen = true) := by
    rw [Decidable.not_and_iff_not_or_not, Bool.not_eq_true, Bool.not_eq_false]
  simp only [runFailure, unreferenced]

theorem inCleanMask_iff (cfg : ChannelSettings) (r : RunRecord) (z : Fin 64) :
    inCleanMask cfg r z = true ↔
      r.zones[z].clean = true ∧ 2 ≤ r.zones[z].count ∧ cfg.sealBand < (z.val * cfg.travel + 63) / 64 := by
  rw [inCleanMask, Bool.and_eq_true, Bool.and_eq_true, decide_eq_true_iff, decide_eq_true_iff, and_assoc, zoneStart]

/-- R110: an EMPTY zone takes its first figures. -/
theorem learnZone_empty {cfg : ChannelSettings} {rc : BitVec 16} {t : Int} {m : Nat} {x : ZoneRecord} (h : x.state = .empty) :
    learnZone cfg rc t m x =
      { state := .learned, baseline := max cfg.bFloor (min cfg.bCeil m), spread := cfg.sInit, stamp := rc, tz := t } := by
  simp only [learnZone, h, clampNat]

/-- R111: a LEARNED or STALE zone moves toward the mean. -/
theorem learnZone_update {cfg : ChannelSettings} {rc : BitVec 16} {t : Int} {m : Nat} {x : ZoneRecord} (h : x.state ≠ .empty) :
    learnZone cfg rc t m x =
      let delta : Int := (m : Int) - x.baseline
      let step := max (-(cfg.learnStepMax : Int)) (min cfg.learnStepMax (Int.tdiv delta ((2 ^ cfg.learnShift : Nat) : Int)))
      { state := .learned
        baseline := (max (cfg.bFloor : Int) (min cfg.bCeil (x.baseline + step))).toNat
        spread := (max 0 (min (cfg.sMax : Int) (x.spread + Int.tdiv ((delta.natAbs : Int) - x.spread) 4))).toNat
        stamp := rc
        tz := t } := by
  cases hx : x.state with
  | empty => exact absurd hx h
  | learned | stale => simp only [learnZone, hx, clampInt]

/-- R112: the aging of a zone. -/
theorem ageZone_eq (cfg : ChannelSettings) (rc : BitVec 16) (t : Int) (x : ZoneRecord) :
    ageZone cfg rc t x =
      let age := (rc - x.stamp).toNat
      if x.state = .learned ∧ (cfg.ageRuns ≤ age ∨ cfg.ageTemp ≤ (t - x.tz).natAbs) then { x with state := .stale }
      else if x.state = .stale ∧ 4 * cfg.ageRuns ≤ age then
        { state := .empty, baseline := 0, spread := 0, stamp := 0, tz := 20 }
      else x := by
  cases hx : x.state with
  | empty => simp only [ageZone, hx, reduceCtorEq, false_and, if_false]
  | learned | stale =>
    simp only [ageZone, hx, reduceCtorEq, false_and, true_and, if_false]
    rfl

/-! ### Zones counted and flagged -/

@[simp] theorem getElem_mapZones {α β : Type} (f : Fin 64 → α → β) (zs : Vector α 64) (z : Fin 64) :
    (mapZones f zs)[z.val] = f z zs[z.val] := by
  simp [mapZones]

theorem countZones_eq {p : Fin 64 → Bool} {q : Fin 64 → Prop} [DecidablePred q] (h : ∀ z, p z = true ↔ q z) :
    countZones p = ((List.finRange 64).filter fun z => decide (q z)).length := by
  rw [countZones, List.filter_congr fun z _ => Bool.eq_iff_iff.2 ((h z).trans (decide_eq_true_iff (p := q z)).symm)]

theorem getLsbD_zoneFlag (i j : Fin 64) : ((1 <<< i.val : Nat) : BitVec 64).getLsbD j.val = true ↔ j = i := by
  rw [BitVec.natCast_eq_ofNat, BitVec.getLsbD_ofNat, Nat.one_shiftLeft, Nat.testBit_two_pow]
  simp [Fin.ext_iff, eq_comm]

theorem getLsbD_zoneMask_foldl (p : Fin 64 → Bool) (l : List (Fin 64)) (m : BitVec 64) (j : Fin 64) :
    (l.foldl (fun (m : BitVec 64) z => if p z then m ||| (1 <<< z.val) else m) m).getLsbD j.val = true ↔
      m.getLsbD j.val = true ∨ j ∈ l ∧ p j = true := by
  induction l generalizing m with
  | nil => simp
  | cons i rest ih =>
    rw [List.foldl_cons, ih, List.mem_cons]
    cases hp : p i with
    | false => grind
    | true =>
      rw [if_pos rfl, BitVec.getLsbD_or, Bool.or_eq_true, getLsbD_zoneFlag]
      grind

theorem getLsbD_zoneMask (p : Fin 64 → Bool) (z : Fin 64) : (zoneMask p).getLsbD z.val = true ↔ p z = true :=
  (getLsbD_zoneMask_foldl p _ 0 z).trans (by simp)

/-! ### A processed run, zone by zone -/

section
variable (p : Profile) (cfg : ChannelSettings) (t : Int) (r : RunRecord)

/-- R108: the run counter, as a qualifying run raises it. -/
def raisedCounter : BitVec 16 := if runFailure cfg.travel r = none then p.runCounter + 1 else p.runCounter

/-- R109, R110: a zone after the learning and before the aging. -/
def learnedZone (z : Fin 64) : ZoneRecord :=
  if runFailure cfg.travel r = none ∧ inCleanMask cfg r z = true then
    learnZone cfg (raisedCounter p cfg r) t (zoneMean r.zones[z]) p.zones[z]
  else p.zones[z]

/-- R112: a zone at the end of the run. -/
def endedZone (z : Fin 64) : ZoneRecord := ageZone cfg (raisedCounter p cfg r) t (learnedZone p cfg t r z)

theorem runEnd_runCounter : (p.runEnd cfg t r).1.runCounter = raisedCounter p cfg r := rfl

theorem runEnd_record : (p.runEnd cfg t r).1.record = none := rfl

theorem runEnd_zones (z : Fin 64) : (p.runEnd cfg t r).1.zones[z] = endedZone p cfg t r z := by
  simp [Profile.runEnd, endedZone, learnedZone, raisedCounter]

theorem runEnd_updated : (p.runEnd cfg t r).2 =
    countZones fun z => decide (runFailure cfg.travel r = none ∧ inCleanMask cfg r z = true) := by
  simp [Profile.runEnd]

/-- R113: the last run result. -/
theorem runEnd_lastRun : (p.runEnd cfg t r).1.lastRun =
    { outcome := if runFailure cfg.travel r = none then .qualified else .notQualified
      failed := runFailure cfg.travel r
      startPos := r.startPos
      cleanMask := zoneMask (inCleanMask cfg r)
      updated := (p.runEnd cfg t r).2
      madeStale := countZones fun z =>
        decide ((learnedZone p cfg t r z).state = .learned ∧ (endedZone p cfg t r z).state = .stale)
      madeEmpty := countZones fun z =>
        decide ((learnedZone p cfg t r z).state = .stale ∧ (endedZone p cfg t r z).state = .empty)
      runCounter := raisedCounter p cfg r } := by
  simp [Profile.runEnd, endedZone, learnedZone, raisedCounter]

end

/-! ### The statement -/

/-- Settles O53: the expiry processes the run (`exec_stallExpiry_runProcessed`), and each figure of the processed run is the stated one. -/
theorem closedEndLearns : Obligations.ClosedEndLearns := by
  intro s c r hrun old cfg temp failed rc inMask learned aged hmotion htimer hrec hend
  obtain ⟨t, hexec, hprf, hctr⟩ := exec_stallExpiry_runProcessed hrun hmotion htimer hrec hend
  have failed_eq : runFailure cfg.travel r = failed := runFailure_eq cfg.travel r
  have rc_eq : raisedCounter old.prf cfg r = rc := by rw [raisedCounter, failed_eq]
  have mask_iff (z : Fin 64) : inCleanMask cfg r z = true ↔ inMask z := inCleanMask_iff cfg r z
  have learned_eq (z : Fin 64) : learnedZone old.prf cfg temp r z = learned z := by
    simp only [learnedZone, failed_eq, rc_eq, mask_iff, learned]
    by_cases hempty : old.prf.zones[z].state = .empty
    · rw [learnZone_empty hempty, if_pos hempty, zoneMean]
    · rw [learnZone_update hempty, if_neg hempty, zoneMean]
  have ended_eq (z : Fin 64) : endedZone old.prf cfg temp r z = aged (learned z) := by
    rw [endedZone, learned_eq, rc_eq, ageZone_eq]
  have updated_eq : (old.prf.runEnd cfg temp r).2 =
      ((List.finRange 64).filter fun z => decide (failed = none ∧ inMask z)).length := by
    rw [runEnd_updated]
    exact countZones_eq fun z => by rw [decide_eq_true_iff, failed_eq, mask_iff]
  have moved_eq (was now : ZoneState) :
      countZones (fun z =>
          decide ((learnedZone old.prf cfg temp r z).state = was ∧ (endedZone old.prf cfg temp r z).state = now)) =
        ((List.finRange 64).filter fun z => decide ((learned z).state = was ∧ (aged (learned z)).state = now)).length :=
    countZones_eq fun z => by rw [decide_eq_true_iff, learned_eq, ended_eq]
  have last_eq := runEnd_lastRun old.prf cfg temp r
  rw [← hprf] at last_eq
  refine ⟨t, hexec, ?_, ?_, fun z => ?_, ?_⟩
  · rw [hprf, runEnd_runCounter, rc_eq]
  · rw [hprf, runEnd_record]
  · rw [hprf, runEnd_zones, ended_eq]
  · rw [last_eq]
    exact ⟨by rw [failed_eq], failed_eq, rfl, rc_eq, fun z => (getLsbD_zoneMask _ z).trans (mask_iff z), updated_eq,
      ⟨moved_eq .learned .stale, moved_eq .stale .empty⟩, hctr⟩

end Sys2Proof.Machine.ProfileRules
end

section
/-! SUPPORT. The incident log, the counters and the sample tap (07_incidents_counters_and_the_sample_tap.md): a ms of the log clock
(R120), the record a tag finds (R124), COUNT_SELECT (R128) and TAP (R130) from frame to answer, and the values that name nothing and
so make a request MALFORMED (R132, R146, R147). -/

namespace Sys2Proof.Machine.LogRules

open Sys2Proof.Machine.ProfileRules

/-! ### The commands, from the row to its meaning -/

theorem exec_logClockTick (s : State) : exec .logClockTick s = execLogClockTick s := rfl

theorem exec_unknownKind (kind : Byte) (p : List Byte) (s : State) : exec (.unknownKind kind p) s = execUnknownKind kind p s := rfl

/-! ### A millisecond of the log clock (R120) -/

theorem passMs_slice (s : State) (c : Channel) : s.passMs.slice c = (s.slice c).tick := Octet.get_map Slice.tick s.ch c

theorem passMs_log (s : State) :
    s.passMs.log = { s.log with clock := BitVec.ofNat 32 ((s.log.clock.toNat + 1) % 4294967296) } := by
  have clock_eq : s.log.clock + 1 = BitVec.ofNat 32 ((s.log.clock.toNat + 1) % 4294967296) := by bv_omega
  rw [← clock_eq]
  rfl

/-- Settles O9: on an operating part the command is `State.passMs`, which passes every slice through `Slice.tick`. -/
theorem logClockTick : Obligations.LogClockTick := by
  intro s hrun
  refine ⟨s.passMs, ?_, passMs_log s, rfl, rfl, rfl, rfl, rfl, fun c => ?_⟩
  · rw [exec_logClockTick, execLogClockTick, whenRunning_eq _ hrun]
  · rw [passMs_slice]
    exact ⟨rfl, rfl, rfl, rfl, rfl, rfl, rfl, rfl, rfl⟩

/-! ### The record a tag finds (R124) -/

theorem tag_getElem {l : IncidentLog} (h : l.TagLaw) {i : Nat} (hi : i < l.ring.length) :
    l.ring[i].tag = l.nextTag - BitVec.ofNat 16 (l.ring.length - i) := by
  have at_i := congrArg (fun tags => tags[i]?) h
  simpa [hi] using at_i

theorem oldestTag_of_ring_cons {l : IncidentLog} {x : Incident} {xs : List Incident} (h : l.ring = x :: xs) :
    l.oldestTag = x.tag := by
  simp [IncidentLog.oldestTag, h]

theorem oldestTag_eq_getElem {l : IncidentLog} (h : 0 < l.ring.length) : l.oldestTag = l.ring[0].tag := by
  simp [IncidentLog.oldestTag, List.head?_eq_getElem?, h]

/-- Under the tag law the tags count up from the oldest. -/
theorem tag_eq_oldestTag_add {l : IncidentLog} (h : l.TagLaw) (hlen : l.ring.length ≤ 32) {i : Nat}
    (hi : i < l.ring.length) : l.ring[i].tag = l.oldestTag + BitVec.ofNat 16 i := by
  have oldest_eq : l.oldestTag = l.nextTag - BitVec.ofNat 16 l.ring.length := by
    rw [oldestTag_eq_getElem (by omega), tag_getElem h, Nat.sub_zero]
  rw [tag_getElem h hi, oldest_eq]
  bv_omega

theorem lookup_of_mem {l : IncidentLog} (h : l.TagLaw) (hlen : l.ring.length ≤ 32) {r : Incident} (hr : r ∈ l.ring) :
    l.lookup r.tag = (some r, true) := by
  obtain ⟨i, hi, rfl⟩ := List.getElem_of_mem hr
  have distance_eq : (l.ring[i].tag - l.oldestTag).toNat = i := by
    rw [tag_eq_oldestTag_add h hlen hi]
    bv_omega
  simp [IncidentLog.lookup, distance_eq, hi]

theorem lookup_of_absent {l : IncidentLog} (h : l.TagLaw) (hlen : l.ring.length ≤ 32) {tag : BitVec 16}
    (habsent : ∀ r ∈ l.ring, r.tag ≠ tag) : l.lookup tag = (l.ring.head?, false) := by
  have beyond : ¬(tag - l.oldestTag).toNat < l.ring.length := by
    intro hd
    refine habsent _ (List.getElem_mem hd) ?_
    rw [tag_eq_oldestTag_add h hlen hd]
    bv_omega
  exact if_neg beyond

/-- Settles O21: a tag's distance from the oldest tag is the place of its record, and lies beyond the ring where no record has it. -/
theorem incidentLookup : Obligations.IncidentLookup := by
  intro l tag htags hlen
  refine ⟨fun hempty => ?empty, fun r hr hr_tag => ?found, fun x xs hring habsent => ?absent, fun x xs => oldestTag_of_ring_cons⟩
  case empty => simp [IncidentLog.lookup, IncidentLog.oldestTag, hempty]
  case found => rw [← hr_tag, lookup_of_mem htags hlen hr]
  case absent => rw [lookup_of_absent htags hlen habsent, hring, List.head?_cons]

/-! ### Bytes that name nothing (R146) -/

theorem sourceOfByte_eq_none {b : Byte} (h : 8 ≤ b.toNat) : sourceOfByte b = none := by
  obtain ⟨n, hn⟩ := Nat.exists_eq_add_of_le' h
  simp [sourceOfByte, hn]

theorem moveModeOfByte_eq_none {b : Byte} (h : 3 ≤ b.toNat) : moveModeOfByte b = none := by
  obtain ⟨n, hn⟩ := Nat.exists_eq_add_of_le' h
  simp [moveModeOfByte, hn]

theorem dirOfByte_eq_none {b : Byte} (h : 2 ≤ b.toNat) : dirOfByte b = none := by
  obtain ⟨n, hn⟩ := Nat.exists_eq_add_of_le' h
  simp [dirOfByte, hn]

theorem counterChoiceOfByte_eq_none {b : Byte} (h : 12 ≤ b.toNat) : counterChoiceOfByte b = none := by
  obtain ⟨n, hn⟩ := Nat.exists_eq_add_of_le' h
  simp [counterChoiceOfByte, hn]

/-! ### From a frame to the block that owns it (R132, R144) -/

theorem requestKindOfByte_code (k : RequestKind) : requestKindOfByte (byteOf k.code) = some k := by
  cases k <;> rfl

theorem takeRequest_nameless (s : State) (k : RequestKind) {p : List Byte} (h : sourceOfByte (byteAt p 1) = none) :
    s.takeRequest k p = s.answer (byteAt p 0) k .malformed [] := by
  rw [State.takeRequest, h]
  rfl

/-- R132, R144: on an operating part a well-formed frame of a class that is not sensitive reaches the block that owns its kind,
whichever source it names. -/
theorem whenRunning_takeFrame_named {s : State} {b : Byte} {k : RequestKind} {p : List Byte} (hrun : s.power = .running)
    (hkind : requestKindOfByte b = some k) (hlength : p.length = payloadLength k) (hclass : requestClass k ≠ .sensitive)
    (hsrc : namesSource (byteAt p 1)) : ∃ q, (s.whenRunning fun t => t.takeFrame b p) = s.counted.carryOut k p q := by
  obtain ⟨q, hq⟩ := Option.isSome_iff_exists.1 hsrc
  refine ⟨q, ?_⟩
  rw [whenRunning_eq _ hrun, takeFrame_wellFormed s hkind hlength]
  simp [State.takeRequest, hq, hclass]

section
variable {s : State} {tag src : Byte}

theorem exec_move_named (mask dir mode lo hi : Byte) (hrun : s.power = .running) (hsrc : namesSource src) :
    ∃ q, exec (.move [tag, src, mask, dir, mode, lo, hi]) s =
      .next (s.counted.carryMove [tag, src, mask, dir, mode, lo, hi] q) := by
  obtain ⟨q, carried⟩ := whenRunning_takeFrame_named (p := [tag, src, mask, dir, mode, lo, hi]) hrun
    (requestKindOfByte_code .move) rfl (by decide) hsrc
  exact ⟨q, congrArg _ carried⟩

theorem exec_ask_named (topic a b d : Byte) (hrun : s.power = .running) (hsrc : namesSource src) :
    exec (.unknownKind (byteOf RequestKind.ask.code) [tag, src, topic, a, b, d]) s =
      .next (s.counted.carryAsk [tag, src, topic, a, b, d]) := by
  obtain ⟨_, carried⟩ := whenRunning_takeFrame_named (p := [tag, src, topic, a, b, d]) hrun
    (requestKindOfByte_code .ask) rfl (by decide) hsrc
  exact congrArg _ carried

theorem exec_tap_named (chan phases onOff : Byte) (hrun : s.power = .running) (hsrc : namesSource src) :
    exec (.tap [tag, src, chan, phases, onOff]) s = .next (s.counted.carryTap [tag, src, chan, phases, onOff]) := by
  obtain ⟨_, carried⟩ := whenRunning_takeFrame_named (p := [tag, src, chan, phases, onOff]) hrun
    (requestKindOfByte_code .tap) rfl (by decide) hsrc
  exact congrArg _ carried

theorem exec_countSelect_named (chan counter choice : Byte) (hrun : s.power = .running) (hsrc : namesSource src) :
    exec (.countSelect [tag, src, chan, counter, choice]) s =
      .next (s.counted.carryCountSelect [tag, src, chan, counter, choice]) := by
  obtain ⟨_, carried⟩ := whenRunning_takeFrame_named (p := [tag, src, chan, counter, choice]) hrun
    (requestKindOfByte_code .countSelect) rfl (by decide) hsrc
  exact congrArg _ carried

end

/-! ### TAP (R130) -/

theorem exec_tap_of_some {s : State} {tag src chan phases onOff : Byte} {t : Tap} (hrun : s.power = .running)
    (hsrc : namesSource src) (h : tapOf chan phases onOff = some t) :
    exec (.tap [tag, src, chan, phases, onOff]) s = .next (({ s.counted with tap := t } : State).answer tag .tap .done []) := by
  rw [exec_tap_named chan phases onOff hrun hsrc]
  simp [State.carryTap, byteAt, h, State.answerPlain]

theorem exec_tap_of_none {s : State} {tag src chan phases onOff : Byte} (hrun : s.power = .running)
    (hsrc : namesSource src) (h : tapOf chan phases onOff = none) :
    exec (.tap [tag, src, chan, phases, onOff]) s = .next (s.counted.answer tag .tap .malformed []) := by
  rw [exec_tap_named chan phases onOff hrun hsrc]
  simp [State.carryTap, byteAt, h, State.answerPlain]

theorem phaseSetOfByte_eq_none {b : Byte} (h : 8 ≤ b.toNat) : phaseSetOfByte b = none := if_neg (Nat.not_lt.2 h)

/-- The bits of the three phases tell a phase byte that names some from 0. -/
theorem phaseBits_of_named {b : Byte} (hlow : 1 ≤ b.toNat) (hhigh : b.toNat ≤ 7) :
    (b.getLsbD 0 || b.getLsbD 1 || b.getLsbD 2) = true := by
  simp only [BitVec.getLsbD]
  generalize b.toNat = n at hlow hhigh
  obtain rfl | rfl | rfl | rfl | rfl | rfl | rfl : n = 1 ∨ n = 2 ∨ n = 3 ∨ n = 4 ∨ n = 5 ∨ n = 6 ∨ n = 7 := by omega
  all_goals rfl

theorem tapOf_off (chan phases : Byte) : tapOf chan phases 0 = some startTap := rfl

theorem tapOf_noPhase (c : Channel) : tapOf (channelByte c) 0 1 = some startTap := by
  simp [tapOf, channelOfByte_channelByte, phaseSetOfByte]

theorem tapOf_on (c : Channel) {phases : Byte} (hlow : 1 ≤ phases.toNat) (hhigh : phases.toNat ≤ 7) :
    tapOf (channelByte c) phases 1 = some
      { channel := some c
        phases := { closing := phases.getLsbD 0, opening := phases.getLsbD 1, reversing := phases.getLsbD 2 }
        skipped := 0 } := by
  have hphases : phaseSetOfByte phases =
      some { closing := phases.getLsbD 0, opening := phases.getLsbD 1, reversing := phases.getLsbD 2 } :=
    if_pos (by omega)
  simp only [tapOf, channelOfByte_channelByte, hphases, phaseBits_of_named hlow hhigh]
  rfl

theorem tapOf_unnamed_onOff (chan phases : Byte) {onOff : Byte} (h : 2 ≤ onOff.toNat) : tapOf chan phases onOff = none := by
  obtain ⟨n, hn⟩ := Nat.exists_eq_add_of_le' h
  simp [tapOf, hn]

theorem tapOf_unnamed_channel {chan : Byte} (phases : Byte) (h : 8 ≤ chan.toNat) : tapOf chan phases 1 = none := by
  simp [tapOf, channelOfByte_eq_none h]

theorem tapOf_unnamed_phases (chan : Byte) {phases : Byte} (h : 8 ≤ phases.toNat) : tapOf chan phases 1 = none := by
  simp [tapOf, phaseSetOfByte_eq_none h]

/-- Settles O22: each clause is the tap that `tapOf` makes of the request's fields, or that it makes none. -/
theorem tapSelects : Obligations.TapSelects := by
  intro s tag src chan phases onOff c hrun hsrc off
  refine ⟨exec_tap_of_some hrun hsrc (tapOf_off chan phases), exec_tap_of_some hrun hsrc (tapOf_noPhase c),
    fun hlow hhigh => exec_tap_of_some hrun hsrc (tapOf_on c hlow hhigh), ?malformed⟩
  case malformed =>
    rintro (hunnamed | ⟨rfl, hchan⟩)
    · exact exec_tap_of_none hrun hsrc (tapOf_unnamed_onOff chan phases hunnamed)
    · exact exec_tap_of_none hrun hsrc (tapOf_unnamed_channel phases hchan)

/-! ### COUNT_SELECT (R128) -/

theorem code_of_counterChoiceOfByte {b : Byte} {x : CounterChoice} (h : counterChoiceOfByte b = some x) :
    x.code = b.toNat := by
  unfold counterChoiceOfByte at h
  split at h
  case h_13 => cases h
  all_goals next hbyte => cases h; exact hbyte.symm

theorem aim_a (k : Counters) {x : CounterChoice} (h : x.code ≤ 3) :
    k.aim 0 x = some { k with a := { value := 0, select := x } } := by
  cases x with
  | closeRuns | openRuns | bandReversals | stallReversals => rfl
  | _ => exact absurd h (by decide)

theorem aim_b (k : Counters) {x : CounterChoice} (hlow : 4 ≤ x.code) (hhigh : x.code ≤ 7) :
    k.aim 1 x = some { k with b := { value := 0, select := x } } := by
  cases x with
  | samples | invalidSamples | watchSamples | tripSamples => rfl
  | closeRuns | openRuns | bandReversals | stallReversals => exact absurd hlow (by decide)
  | _ => exact absurd hhigh (by decide)

theorem aim_c (k : Counters) {x : CounterChoice} (h : 8 ≤ x.code) :
    k.aim 2 x = some { k with c := { value := 0, select := x } } := by
  cases x with
  | hallInvalid | disturbedSamples | zoneUpdates | thermalRefusals => rfl
  | _ => exact absurd h (by decide)

/-- A counter of another four choices, or a byte that names no counter, takes no choice. -/
theorem aim_eq_none (k : Counters) {counter : Byte} {x : CounterChoice} (h : counter.toNat ≠ x.code / 4) :
    k.aim counter x = none := by
  unfold Counters.aim
  split
  case h_13 => rfl
  all_goals next hcounter => exact absurd hcounter h

section
variable {s : State} {tag src : Byte}

theorem exec_countSelect_of_some {counter choice : Byte} {c : Channel} {x : CounterChoice} (f : Counters → Counters)
    (hrun : s.power = .running) (hsrc : namesSource src) (hx : counterChoiceOfByte choice = some x)
    (h : (s.slice c).ctr.aim counter x = some (f (s.slice c).ctr)) :
    exec (.countSelect [tag, src, channelByte c, counter, choice]) s =
      .next ((s.counted.modCtr c f).answer tag .countSelect .done []) := by
  have aimed : (s.counted.slice c).ctr.aim counter x = some (f (s.counted.slice c).ctr) := h
  rw [exec_countSelect_named _ counter choice hrun hsrc]
  simp only [State.carryCountSelect, byteAt, List.getElem?_cons_zero, List.getElem?_cons_succ, Option.getD_some,
    channelOfByte_channelByte, hx, aimed]
  rfl

theorem exec_countSelect_of_none {counter choice : Byte} {c : Channel} {x : CounterChoice}
    (hrun : s.power = .running) (hsrc : namesSource src) (hx : counterChoiceOfByte choice = some x)
    (h : (s.slice c).ctr.aim counter x = none) :
    exec (.countSelect [tag, src, channelByte c, counter, choice]) s =
      .next (s.counted.answer tag .countSelect .malformed []) := by
  have aimed : (s.counted.slice c).ctr.aim counter x = none := h
  rw [exec_countSelect_named _ counter choice hrun hsrc]
  simp [State.carryCountSelect, byteAt, channelOfByte_channelByte, hx, aimed, State.answerPlain]

theorem exec_countSelect_unnamed {chan counter choice : Byte} (hrun : s.power = .running) (hsrc : namesSource src)
    (h : 8 ≤ chan.toNat ∨ 12 ≤ choice.toNat) :
    exec (.countSelect [tag, src, chan, counter, choice]) s =
      .next (s.counted.answer tag .countSelect .malformed []) := by
  rw [exec_countSelect_named chan counter choice hrun hsrc]
  rcases h with hchan | hchoice
  · simp [State.carryCountSelect, byteAt, channelOfByte_eq_none hchan, State.answerPlain]
  · simp [State.carryCountSelect, byteAt, counterChoiceOfByte_eq_none hchoice, State.answerPlain]

end

/-- Settles O23: a choice's code is its byte, and `Counters.aim` takes a choice only for the counter of its four. -/
theorem countSelectAims : Obligations.CountSelectAims := by
  intro s tag src counter choice c x hrun hsrc hx request
  have hcode : x.code = choice.toNat := code_of_counterChoiceOfByte hx
  rw [← hcode]
  refine ⟨?a, ?b, ?c, fun hother => exec_countSelect_of_none hrun hsrc hx (aim_eq_none _ hother)⟩
  case a =>
    rintro rfl hhigh
    exact exec_countSelect_of_some (fun k => { k with a := { value := 0, select := x } }) hrun hsrc hx (aim_a _ hhigh)
  case b =>
    rintro rfl hlow hhigh
    exact exec_countSelect_of_some (fun k => { k with b := { value := 0, select := x } }) hrun hsrc hx (aim_b _ hlow hhigh)
  case c =>
    rintro rfl hlow
    exact exec_countSelect_of_some (fun k => { k with c := { value := 0, select := x } }) hrun hsrc hx (aim_c _ hlow)

/-! ### Values that name nothing (R128, R132, R146, R147) -/

theorem carryMove_unnamed (s : State) (q : Source) (tag src mask dir mode lo hi : Byte)
    (h : 3 ≤ mode.toNat ∨ (mode.toNat ≤ 1 ∧ 2 ≤ dir.toNat)) :
    s.carryMove [tag, src, mask, dir, mode, lo, hi] q = s.answer tag .move .malformed [] := by
  rcases h with hmode | ⟨hmode, hdir⟩
  · simp [State.carryMove, byteAt, moveModeOfByte_eq_none hmode, State.answerPlain]
  · obtain ⟨m, hm, hm_dir⟩ : ∃ m, moveModeOfByte mode = some m ∧ moveDirection m dir = none := by
      rcases Nat.le_one_iff_eq_zero_or_eq_one.1 hmode with h0 | h1
      · exact ⟨.manual, by simp [moveModeOfByte, h0], dirOfByte_eq_none hdir⟩
      · exact ⟨.express, by simp [moveModeOfByte, h1], dirOfByte_eq_none hdir⟩
    simp [State.carryMove, byteAt, hm, hm_dir, State.answerPlain]

theorem carryAsk_unnamed (s : State) (tag src a b d : Byte) {topic : Byte} (h : 7 ≤ topic.toNat) :
    s.carryAsk [tag, src, topic, a, b, d] = s.answer tag .ask .malformed [] := by
  obtain ⟨n, hn⟩ := Nat.exists_eq_add_of_le' h
  simp [State.carryAsk, byteAt, hn, State.answerPlain]

/-- Settles O11: the source filter answers a nameless source, and each block a nameless field. -/
theorem namelessValuesAreMalformed : Obligations.NamelessValuesAreMalformed := by
  refine ⟨?source, ?move, ?tap, ?countSelect, ?ask⟩
  case source =>
    rintro s k p tag src rest hrun rfl hlength hsrc
    have nameless : sourceOfByte (byteAt (tag :: src :: rest) 1) = none := sourceOfByte_eq_none hsrc
    rw [exec_unknownKind, execUnknownKind, whenRunning_eq _ hrun, takeFrame_wellFormed s (requestKindOfByte_code k) hlength,
      takeRequest_nameless _ k nameless]
    rfl
  case move =>
    intro s tag src mask dir mode lo hi hrun hsrc hnameless
    obtain ⟨q, hexec⟩ := exec_move_named mask dir mode lo hi hrun hsrc
    rw [hexec, carryMove_unnamed _ q _ _ _ _ _ _ _ hnameless]
  case tap =>
    intro s tag src chan phases hrun hsrc hphases
    exact exec_tap_of_none hrun hsrc (tapOf_unnamed_phases chan hphases)
  case countSelect =>
    intro s tag src chan counter choice hrun hsrc hnameless
    exact exec_countSelect_unnamed hrun hsrc hnameless
  case ask =>
    intro s tag src topic a b d hrun hsrc htopic
    rw [exec_ask_named topic a b d hrun hsrc, carryAsk_unnamed _ _ _ _ _ _ htopic]

end Sys2Proof.Machine.LogRules
end

section
/-! SUPPORT. The source filter and the permission table (08_sources_and_permissions.md): a sensitive request referred (R135, R137), a MOVE
of which no channel is allowed (R134, R135), and PERMIT with the privileged set it keeps non-empty (R138). -/

namespace Sys2Proof.Machine.SourceRules

open Sys2Proof.Machine.ProfileRules Sys2Proof.Machine.LogRules

/-! ### The source filter (R132, R137) -/

theorem requestClass_eq_sensitive {k : RequestKind}
    (h : k ∈ [RequestKind.set, .permit, .lock, .forget, .clearFault, .restart, .store, .park]) :
    requestClass k = .sensitive := by
  revert k; decide

/-- On an operating part a well-formed frame is counted and taken by the source filter. -/
theorem whenRunning_takeFrame {s : State} {b : Byte} {k : RequestKind} {p : List Byte} (hrun : s.power = .running)
    (hkind : requestKindOfByte b = some k) (hlength : p.length = payloadLength k) :
    (s.whenRunning fun t => t.takeFrame b p) = s.counted.takeRequest k p := by
  rw [whenRunning_eq _ hrun, takeFrame_wellFormed s hkind hlength]

theorem takeRequest_unprivileged (s : State) {k : RequestKind} {p : List Byte} {q : Source}
    (hclass : requestClass k = .sensitive) (hsrc : sourceOfByte (byteAt p 1) = some q)
    (hpriv : s.priv.get (Source.index q) = false) : s.takeRequest k p = s.referRequest k p := by
  simp [State.takeRequest, hsrc, hclass, hpriv]

theorem takeRequest_notSensitive (s : State) {k : RequestKind} {p : List Byte} {q : Source}
    (hclass : requestClass k ≠ .sensitive) (hsrc : sourceOfByte (byteAt p 1) = some q) :
    s.takeRequest k p = s.carryOut k p q := by
  simp [State.takeRequest, hsrc, hclass]

theorem referRequest_cons (s : State) (k : RequestKind) (tag src : Byte) (rest : List Byte) :
    s.referRequest k (tag :: src :: rest) =
      (s.answer tag k .referred []).queueReport .refer (.refer tag (byteOf k.code) src 0 rest) := rfl

/-- Settles O12: the source filter hands the counted frame to `State.referRequest`, whichever sensitive kind it is. -/
theorem unprivilegedSensitiveIsReferred : Obligations.UnprivilegedSensitiveIsReferred := by
  intro s k tag src rest q hrun hk hlength hsrc hpriv
  have unprivileged : s.counted.priv.get (Source.index q) = false := hpriv
  rw [exec_unknownKind, execUnknownKind, whenRunning_takeFrame hrun (requestKindOfByte_code k) hlength,
    takeRequest_unprivileged (p := tag :: src :: rest) _ (requestClass_eq_sensitive hk) hsrc unprivileged, referRequest_cons]

/-! ### The referred set of a MOVE (R135) -/

theorem getLsbD_oneChannel (c d : Channel) : (oneChannel d).getLsbD c.val = decide (c = d) := by
  revert c d; decide

theorem mem_channelsOf {mask : Byte} {c : Channel} : c ∈ channelsOf mask ↔ mask.getLsbD c.val = true := by
  simp [channelsOf]

/-- A referred set after one more outcome. -/
def addReferred (m : Byte) (o : Channel × Status) : Byte := if o.2 = .referred then m ||| oneChannel o.1 else m

theorem referredMask_eq_foldl (outcomes : List (Channel × Status)) : referredMask outcomes = outcomes.foldl addReferred 0 := rfl

theorem getLsbD_addReferred (m : Byte) (o : Channel × Status) (c : Channel) :
    (addReferred m o).getLsbD c.val = true ↔ m.getLsbD c.val = true ∨ (c, Status.referred) = o := by
  obtain ⟨d, st⟩ := o
  by_cases hst : st = .referred
  · simp only [addReferred, hst, if_true, BitVec.getLsbD_or, getLsbD_oneChannel, Bool.or_eq_true, decide_eq_true_eq,
      Prod.mk.injEq, and_true]
  · simp [addReferred, hst, Ne.symm hst]

theorem getLsbD_foldl_addReferred (outcomes : List (Channel × Status)) (m : Byte) (c : Channel) :
    (outcomes.foldl addReferred m).getLsbD c.val = true ↔ m.getLsbD c.val = true ∨ (c, .referred) ∈ outcomes := by
  induction outcomes generalizing m with
  | nil => simp
  | cons o os ih => rw [List.foldl_cons, ih, getLsbD_addReferred, List.mem_cons, or_assoc]

theorem getLsbD_referredMask (outcomes : List (Channel × Status)) (c : Channel) :
    (referredMask outcomes).getLsbD c.val = true ↔ (c, .referred) ∈ outcomes := by
  rw [referredMask_eq_foldl, getLsbD_foldl_addReferred]
  simp

theorem referredMask_eq_zero_iff (outcomes : List (Channel × Status)) :
    referredMask outcomes = 0 ↔ ∀ o ∈ outcomes, o.2 ≠ .referred := by
  constructor
  · rintro hzero ⟨c, _⟩ ho rfl
    simpa [hzero] using (getLsbD_referredMask outcomes c).2 ho
  · intro hnone
    refine BitVec.eq_of_getLsbD_eq fun i hi => ?_
    have bit_clear : ¬(referredMask outcomes).getLsbD i = true := fun hbit =>
      hnone _ ((getLsbD_referredMask outcomes ⟨i, hi⟩).1 hbit) rfl
    simpa using bit_clear

/-! ### A MOVE of which no channel is allowed (R134, R135) -/

/-- The outcome of a channel's part of a MOVE that its source's entry does not allow. -/
def refusal (p : Perm) : Status := if p = .deny then .denied else .referred

theorem refusal_eq_referred_iff {p : Perm} (h : p ≠ .allow) : refusal p = .referred ↔ p = .refer := by
  cases p with
  | allow => exact absurd rfl h
  | deny | refer => decide

theorem u8_code_refusal (p : Perm) : u8 (Status.code (refusal p)) = [if p = .deny then 5 else 6] := by
  cases p <;> rfl

theorem movePart_unallowed {s : State} {q : Source} {c : Channel} (mode : MoveMode) (dir : Dir) (target : Nat)
    (h : ¬s.allows q c) :
    s.movePart q mode dir target c = (s, refusal ((s.perms.get (Source.index q)).get c)) := by
  unfold State.movePart
  split
  case h_1 hp => exact absurd hp h
  case h_2 hp => rw [hp]; rfl
  case h_3 hp => rw [hp]; rfl

theorem moveParts_unallowed {s : State} {q : Source} (mode : MoveMode) (dir : Dir) (target : Nat) (cs : List Channel)
    (h : ∀ c ∈ cs, ¬s.allows q c) :
    State.moveParts q mode dir target cs s =
      (s, cs.map fun c => (c, refusal ((s.perms.get (Source.index q)).get c))) := by
  induction cs with
  | nil => rfl
  | cons c cs ih =>
    obtain ⟨head, tail⟩ := List.forall_mem_cons.1 h
    simp only [State.moveParts, movePart_unallowed mode dir target head, ih tail, List.map_cons]

theorem named_of_modeByte {mode dir : Byte} (h : mode.toNat = 2 ∨ (mode.toNat ≤ 1 ∧ dir.toNat ≤ 1)) :
    ∃ m d, moveModeOfByte mode = some m ∧ moveDirection m dir = some d := by
  rcases h with htarget | ⟨hmode, hdir⟩
  · exact ⟨.target, .closing, by simp [moveModeOfByte, htarget], rfl⟩
  · obtain ⟨d, hd⟩ : ∃ d, dirOfByte dir = some d := by
      rcases Nat.le_one_iff_eq_zero_or_eq_one.1 hdir with h0 | h1
      · exact ⟨.closing, by simp [dirOfByte, h0]⟩
      · exact ⟨.opening, by simp [dirOfByte, h1]⟩
    rcases Nat.le_one_iff_eq_zero_or_eq_one.1 hmode with h0 | h1
    · exact ⟨.manual, d, by simp [moveModeOfByte, h0], hd⟩
    · exact ⟨.express, d, by simp [moveModeOfByte, h1], hd⟩

/-- A MOVE whose mode and direction name members: the REFER notice follows where the referred set is not empty. -/
theorem carryMove_named (s : State) (q : Source) (tag src mask lo hi : Byte) {mode dir : Byte} {m : MoveMode} {d : Dir}
    (hm : moveModeOfByte mode = some m) (hd : moveDirection m dir = some d) :
    s.carryMove [tag, src, mask, dir, mode, lo, hi] q =
      let r := State.moveParts q m d (readU16 lo hi) (channelsOf mask) s
      let answered := r.1.answer tag .move .done (r.2.map fun o => u8 (Status.code o.2))
      if referredMask r.2 = 0 then answered
      else answered.queueReport .refer (.refer tag 1 src (referredMask r.2) [mode, dir, lo, hi]) := by
  simp only [State.carryMove, byteAt, List.getElem?_cons_zero, List.getElem?_cons_succ, Option.getD_some, hm, hd,
    referredMask_eq_zero_iff, List.any_eq_true, decide_eq_true_eq]
  split
  case isTrue hsome =>
    obtain ⟨o, ho, hreferred⟩ := hsome
    exact (if_neg fun hnone => hnone o ho hreferred).symm
  case isFalse hnone => exact (if_pos fun o ho hreferred => hnone ⟨o, ho, hreferred⟩).symm

theorem exec_move_of_source {s : State} {tag src : Byte} {q : Source} (mask dir mode lo hi : Byte)
    (hrun : s.power = .running) (hsrc : sourceOfByte src = some q) :
    exec (.move [tag, src, mask, dir, mode, lo, hi]) s =
      .next (s.counted.carryMove [tag, src, mask, dir, mode, lo, hi] q) :=
  congrArg _ ((whenRunning_takeFrame (p := [tag, src, mask, dir, mode, lo, hi]) hrun (requestKindOfByte_code .move) rfl).trans
    (takeRequest_notSensitive _ (by decide) hsrc))

/-- Settles O13: every part of the MOVE leaves the state as it was, and the referred set is that of the outcomes. -/
theorem unallowedMoveTouchesNoChannel : Obligations.UnallowedMoveTouchesNoChannel := by
  intro s tag src mask dir mode lo hi q hrun hsrc hnamed hunallowed outcome answered
  obtain ⟨m, d, hm, hd⟩ := named_of_modeByte hnamed
  have parts := moveParts_unallowed (s := s.counted) m d (readU16 lo hi) (channelsOf mask) hunallowed
  refine ⟨referredMask ((channelsOf mask).map fun c => (c, refusal ((s.perms.get (Source.index q)).get c))),
    fun c => ?bits, ?run⟩
  case bits =>
    rw [Bool.eq_iff_iff, getLsbD_referredMask, Bool.and_eq_true, decide_eq_true_eq]
    constructor
    · intro hmem
      obtain ⟨c, hc, hpair⟩ := List.mem_map.1 hmem
      obtain ⟨rfl, houtcome⟩ := Prod.mk.inj hpair
      exact ⟨mem_channelsOf.1 hc, (refusal_eq_referred_iff (hunallowed c hc)).1 houtcome⟩
    · rintro ⟨hbit, hrefer⟩
      exact List.mem_map.2 ⟨c, mem_channelsOf.2 hbit, by rw [hrefer]; rfl⟩
  case run =>
    rw [exec_move_of_source mask dir mode lo hi hrun hsrc, carryMove_named _ q tag src mask lo hi hm hd, parts]
    simp only [List.map_map, Function.comp_def, u8_code_refusal]
    rfl

/-! ### The fields of a PERMIT (R138) -/

theorem permOfByte_code (p : Perm) : permOfByte (byteOf (Perm.code p)) = some p := by
  cases p <;> rfl

theorem permOfByte_eq_none {b : Byte} (h : 3 ≤ b.toNat) : permOfByte b = none := by
  obtain ⟨n, hn⟩ := Nat.exists_eq_add_of_le' h
  simp [permOfByte, hn]

theorem flagOfByte_eq_none {b : Byte} (h : 2 ≤ b.toNat) : flagOfByte b = none := by
  obtain ⟨n, hn⟩ := Nat.exists_eq_add_of_le' h
  simp [flagOfByte, hn]

theorem permitRow_codes (tag src who f : Byte) (row : Octet Perm) :
    permitRow ([tag, src, who] ++ (row.toList.map fun p => byteOf (Perm.code p)) ++ [f]) = some row := by
  simp [permitRow, byteAt, Octet.toList, permOfByte_code]

/-- One byte among the eight permissions that names none spoils the row. -/
theorem permitRow_eq_none {p : List Byte} {i : Nat} (hlow : 3 ≤ i) (hhigh : i < 11) (h : permOfByte (byteAt p i) = none) :
    permitRow p = none := by
  unfold permitRow
  split
  case h_2 => rfl
  case h_1 h3 h4 h5 h6 h7 h8 h9 h10 =>
    have clash {b : Byte} {x : Perm} (hnone : permOfByte b = none) (hsome : permOfByte b = some x) : False :=
      Option.some_ne_none x (hsome.symm.trans hnone)
    exfalso
    obtain rfl | rfl | rfl | rfl | rfl | rfl | rfl | rfl :
      i = 3 ∨ i = 4 ∨ i = 5 ∨ i = 6 ∨ i = 7 ∨ i = 8 ∨ i = 9 ∨ i = 10 := by omega
    · exact clash h h3
    · exact clash h h4
    · exact clash h h5
    · exact clash h h6
    · exact clash h h7
    · exact clash h h8
    · exact clash h h9
    · exact clash h h10

theorem byteAt_permission (tag src who f : Byte) {bs : List Byte} {i : Nat} (hi : i < bs.length) :
    byteAt ([tag, src, who] ++ bs ++ [f]) (3 + i) = bs[i] := by
  simp [byteAt, Nat.add_comm 3 i, List.getElem?_append_left hi, List.getElem?_eq_getElem hi]

theorem byteAt_flag (tag src who f : Byte) {bs : List Byte} (h : bs.length = 8) :
    byteAt ([tag, src, who] ++ bs ++ [f]) 11 = f := by
  simp [byteAt, h]

/-! ### The privileged set (R138) -/

/-- The source of an index. -/
def sourceAt (i : Fin 8) : Source :=
  (Octet.mk Source.driver .codriver .rearLeft .rearRight .roofConsole .remote .body .service).get i

theorem sourceAt_index (x : Source) : sourceAt (Source.index x) = x := by
  cases x <;> rfl

theorem index_sourceAt (i : Fin 8) : Source.index (sourceAt i) = i := by
  revert i; decide

theorem index_injective : Function.Injective Source.index := Function.LeftInverse.injective sourceAt_index

theorem index_surjective : Function.Surjective Source.index := Function.RightInverse.surjective index_sourceAt

theorem all_toList {α : Type} (o : Octet α) (f : α → Bool) : o.toList.all f = true ↔ ∀ i, f (o.get i) = true := by
  simp [Octet.toList, Octet.get, Fin.forall_fin_succ]

theorem set_get_self {α : Type} (o : Octet α) (i : Fin 8) : o.set i (o.get i) = o :=
  Octet.ext_get fun j => by
    rw [Octet.get_set]
    split
    case isTrue h => rw [h]
    case isFalse => rfl

theorem onlyMember_iff (priv : Octet Bool) (q : Source) :
    onlyMember priv q = true ↔
      priv.get (Source.index q) = true ∧ ¬∃ x : Source, x ≠ q ∧ priv.get (Source.index x) = true := by
  rw [onlyMember, Bool.and_eq_true, decide_eq_true_eq, all_toList]
  refine and_congr_right fun _ => ⟨?alone, ?none_else⟩
  case alone =>
    rintro hclear ⟨x, hne, hx⟩
    have clear := hclear (Source.index x)
    rw [Octet.get_set_ne _ _ fun h => hne (index_injective h), hx] at clear
    exact Bool.false_ne_true clear
  case none_else =>
    intro halone i
    obtain ⟨x, rfl⟩ := index_surjective i
    by_cases hx : x = q
    · rw [hx, Octet.get_set_same]; rfl
    · have clear : priv.get (Source.index x) = false := Bool.eq_false_iff.2 fun h => halone ⟨x, hx, h⟩
      rw [Octet.get_set_ne _ _ fun h => hx (index_injective h), clear]; rfl

/-! ### PERMIT (R138) -/

theorem exec_permit_privileged {s : State} {tag src who f : Byte} {bs : List Byte} (hrun : s.power = .running)
    (hsrc : s.privileged src) (hlength : bs.length = 8) :
    exec (.permit ([tag, src, who] ++ bs ++ [f])) s = .next (s.counted.carryPermit ([tag, src, who] ++ bs ++ [f])) := by
  have length_eq : ([tag, src, who] ++ bs ++ [f]).length = payloadLength .permit := by simp [hlength, payloadLength]
  obtain ⟨_, -, carried⟩ := takeRequest_privileged s.counted .permit ([tag, src, who] ++ bs ++ [f]) hsrc
  exact congrArg _ ((whenRunning_takeFrame hrun (requestKindOfByte_code .permit) length_eq).trans carried)

theorem carryPermit_unnamed (s : State) {p : List Byte}
    (h : sourceOfByte (byteAt p 2) = none ∨ permitRow p = none ∨ flagOfByte (byteAt p 11) = none) :
    s.carryPermit p = s.answer (byteAt p 0) .permit .malformed [] := by
  unfold State.carryPermit
  split
  case h_1 hsrc hrow hflag => simp [hsrc, hrow, hflag] at h
  case h_2 => rfl

section
variable {s : State} {p : List Byte} {q : Source} {row : Octet Perm} {f : Bool}

/-- The privileged set takes the flag where the source stays or another one is a member. -/
theorem carryPermit_done (hsrc : sourceOfByte (byteAt p 2) = some q) (hrow : permitRow p = some row)
    (hflag : flagOfByte (byteAt p 11) = some f) (h : (!f && onlyMember s.priv q) = false) :
    s.carryPermit p =
      ({ s with perms := s.perms.set (Source.index q) row, priv := s.priv.set (Source.index q) f } : State).answer
        (byteAt p 0) .permit .done [] := by
  simp [State.carryPermit, hsrc, hrow, hflag, h, State.answerPlain]

/-- The only member is kept, and the answer carries the flag as taken. -/
theorem carryPermit_clamped (hsrc : sourceOfByte (byteAt p 2) = some q) (hrow : permitRow p = some row)
    (hflag : flagOfByte (byteAt p 11) = some false) (h : onlyMember s.priv q = true) :
    s.carryPermit p =
      ({ s with perms := s.perms.set (Source.index q) row } : State).answer (byteAt p 0) .permit .clamped [[1, 0, 0, 0]] := by
  obtain ⟨member, -⟩ := (onlyMember_iff s.priv q).1 h
  have kept : s.priv.set (Source.index q) true = s.priv := by rw [← member, set_get_self]
  have taken : i32 1 = [1, 0, 0, 0] := rfl
  simp [State.carryPermit, hsrc, hrow, hflag, h, kept, State.answerClamped, taken]

end

/-- Settles O27: the row and the flag are as the bytes name them, and `onlyMember` tells the clamped case from the others. -/
theorem permitWritesRow : Obligations.PermitWritesRow := by
  intro s tag src who f q row hrun hsrc permit bytes perms another
  have row_named (g : Byte) : permitRow ([tag, src, who] ++ bytes ++ [g]) = some row := permitRow_codes tag src who g row
  refine ⟨fun hwho => ⟨?joins, ?leaves, ?stays⟩, fun bs hbs => ?malformed⟩
  case joins =>
    refine (exec_permit_privileged hrun hsrc rfl).trans (congrArg _ ?_)
    exact carryPermit_done (f := true) hwho (row_named 1) rfl rfl
  case leaves =>
    intro hnot_only
    have not_only : onlyMember s.priv q = false := Bool.eq_false_iff.2 fun honly => by
      obtain ⟨member, alone⟩ := (onlyMember_iff s.priv q).1 honly
      exact hnot_only.elim alone (Bool.eq_false_iff.1 · member)
    refine (exec_permit_privileged hrun hsrc rfl).trans (congrArg _ ?_)
    exact carryPermit_done (f := false) hwho (row_named 0) rfl not_only
  case stays =>
    intro member alone
    refine (exec_permit_privileged hrun hsrc rfl).trans (congrArg _ ?_)
    exact carryPermit_clamped hwho (row_named 0) rfl ((onlyMember_iff s.priv q).2 ⟨member, alone⟩)
  case malformed =>
    intro hunnamed
    refine (exec_permit_privileged hrun hsrc hbs).trans (congrArg _ (carryPermit_unnamed _ ?_))
    rcases hunnamed with hwho | hflag | ⟨b, hb, hperm⟩
    · exact .inl (sourceOfByte_eq_none hwho)
    · exact .inr (.inr (by rw [byteAt_flag tag src who f hbs, flagOfByte_eq_none hflag]))
    · obtain ⟨i, hi, rfl⟩ := List.getElem_of_mem hb
      have unnamed : permOfByte (byteAt ([tag, src, who] ++ bs ++ [f]) (3 + i)) = none := by
        rw [byteAt_permission tag src who f hi, permOfByte_eq_none hperm]
      exact .inr (.inl (permitRow_eq_none (by omega) (by omega) unnamed))

end Sys2Proof.Machine.SourceRules
end

section
/-! SUPPORT. The step and the body link (09_the_body_link.md): a frame against the catalogue (R144, R146), the class of a report and the
choice of the transmitter (R151, R152), the check of a frame (R143) and the receive parser (R141, R142). -/

namespace Sys2Proof.Machine.LinkRules

open Sys2Proof.Machine.ProfileRules Sys2Proof.Machine.LogRules

/-! ### The step -/

theorem step_of_cons {s : State} {i : Instr} {rest : List Instr} (h : s.pending = i :: rest) :
    step s = exec i { s with pending := rest } := by
  rw [step, h]

theorem step_of_nil {s : State} (h : s.pending = []) : step s = .next s := by
  rw [step, h]

/-- Settles O1: the two cases of the queue. -/
theorem stepTakesFrontCommand : Obligations.StepTakesFrontCommand :=
  ⟨fun _ _ _ => step_of_cons, fun _ => step_of_nil⟩

/-! ### A frame against the catalogue (R144, R146) -/

theorem exec_unknownKind_running {s : State} (kind : Byte) (p : List Byte) (h : s.power = .running) :
    exec (.unknownKind kind p) s = .next (s.takeFrame kind p) := by
  rw [exec_unknownKind, execUnknownKind, whenRunning_eq _ h]

theorem requestKindOfByte_eq_none {b : Byte} (h : ¬(1 ≤ b.toNat ∧ b.toNat ≤ 14)) : requestKindOfByte b = none := by
  unfold requestKindOfByte
  split
  case h_15 => rfl
  all_goals next hb => exact absurd (by omega) h

theorem byteAt_zero (p : List Byte) : byteAt p 0 = p.headD 0 := by
  cases p <;> rfl

theorem answerBadFrame_eq (s : State) (kind : Byte) (p : List Byte) :
    s.answerBadFrame kind p = s.queueReport .answerOther (.answer (p.headD 0) kind .malformed []) := by
  rw [State.answerBadFrame, byteAt_zero]

theorem takeFrame_unknown (s : State) {kind : Byte} (p : List Byte) (h : requestKindOfByte kind = none) :
    s.takeFrame kind p = (s.modCounters fun n => { n with unknownKind := n.unknownKind + 1 }).answerBadFrame kind p := by
  rw [State.takeFrame, h]

theorem takeFrame_badLength (s : State) {kind : Byte} {k : RequestKind} {p : List Byte} (hk : requestKindOfByte kind = some k)
    (hp : p.length ≠ payloadLength k) :
    s.takeFrame kind p = (s.modCounters fun n => { n with badLength := n.badLength + 1 }).answerBadFrame kind p := by
  simp only [State.takeFrame, hk, if_neg hp]

/-- Settles O10: the three cases of `State.takeFrame`. A request row is `State.takeFrame` of its kind by definition. -/
theorem frameIsHeldAgainstCatalogue : Obligations.FrameIsHeldAgainstCatalogue := by
  refine ⟨fun s kind p hrun hkind => ?unknown, fun s k p hrun hp => ?badLength, fun s k p hrun hp => ?taken,
    fun s p => ?rows, fun s tag src a b d => ?askRows⟩
  case unknown => rw [exec_unknownKind_running _ _ hrun, takeFrame_unknown s p (requestKindOfByte_eq_none hkind), answerBadFrame_eq]
  case badLength =>
    rw [exec_unknownKind_running _ _ hrun, takeFrame_badLength s (requestKindOfByte_code k) hp, answerBadFrame_eq]
  case taken => rw [exec_unknownKind_running _ _ hrun, takeFrame_wellFormed s (requestKindOfByte_code k) hp]
  case rows => exact ⟨rfl, rfl, rfl, rfl, rfl, rfl, rfl, rfl, rfl, rfl, rfl, rfl, rfl⟩
  case askRows => exact ⟨rfl, rfl, rfl, rfl, rfl, rfl, rfl⟩

/-! ### The class of a report and its queue (R151) -/

theorem answerClass_eq (k : RequestKind) :
    answerClass k = if k = .move then .answerMove else if k = .halt then .answerHalt else .answerOther := by
  cases k <;> rfl

theorem getLsbD_eq_decide {w : Nat} (x : BitVec w) (i : Nat) : x.getLsbD i = decide (x.toNat / 2 ^ i % 2 = 1) :=
  Nat.testBit_eq_decide_div_mod_eq

/-- A busy transmitter goes on with the report it is sending. -/
theorem choose_of_sending (w : Weight) {l : Link} {x : Report} (h : l.sending = some x) : l.choose w = l := by
  rw [Link.choose, h]

theorem join_sending (u : Bool) (r : Report) (l : Link) : (l.join u r).sending = l.sending := by
  rcases Link.join_cases u r l with ⟨-, -, h⟩ | ⟨-, -, h⟩ | ⟨-, -, h⟩ | ⟨-, -, h⟩ <;> rw [h]

theorem queueReport_of_sending {s : State} (cls : ReportClass) (r : Report) {x : Report} (h : s.link.sending = some x) :
    s.queueReport cls r = { s with link := s.link.join (isUrgent s.globals.urgentKinds cls) r } := by
  rw [State.queueReport_eq, choose_of_sending _ ((join_sending _ r s.link).trans h)]

/-- With nothing waiting and nothing sent, a report joins an empty queue and is chosen from it at once. -/
theorem queueReport_of_idle {s : State} (cls : ReportClass) (r : Report) (hs : s.link.sending = none)
    (hu : s.link.urgent = []) (hr : s.link.routine = []) :
    s.queueReport cls r = { s with
      link := { s.link with
        sending := some r
        urgentRun := if isUrgent s.globals.urgentKinds cls then min 255 (s.link.urgentRun + 1) else 0 } } := by
  rw [State.queueReport_eq]
  cases hcls : isUrgent s.globals.urgentKinds cls with
  | true => simp [Link.join, Link.choose, hs, hu, hr, urgentCapacity]
  | false => simp [Link.join, Link.choose, hs, hu, hr, routineCapacity]

/-! ### The end of a report and the next one (R152) -/

theorem belowWeight_iff (w : Weight) (run : Nat) : belowWeight w run = true ↔ w = .strict ∨ run < Weight.code w := by
  cases w <;> simp [belowWeight, Weight.code]

theorem exec_reportSent_running {s : State} (h : s.power = .running) :
    exec .reportSent s = .next { s with link := s.link.sent s.globals.wrr } := by
  show execReportSent s = _
  rw [execReportSent, whenRunning_eq _ h, State.modLink]

theorem sent_of_none (w : Weight) {l : Link} (h : l.sending = none) : l.sent w = l := by
  rw [Link.sent, h]

section
variable {l : Link} {x u r : Report} {us rs : List Report} (w : Weight)

theorem sent_of_some (h : l.sending = some x) : l.sent w = { l with sending := none }.choose w := by
  rw [Link.sent, h]

theorem sent_onlyUrgent (h : l.sending = some x) (hu : l.urgent = u :: us) (hr : l.routine = []) :
    l.sent w = { l with urgent := us, sending := some u, urgentRun := min 255 (l.urgentRun + 1) } := by
  simp [sent_of_some w h, Link.choose, hu, hr]

theorem sent_below (h : l.sending = some x) (hu : l.urgent = u :: us) (hr : l.routine = r :: rs)
    (hw : belowWeight w l.urgentRun = true) :
    l.sent w = { l with urgent := us, sending := some u, urgentRun := min 255 (l.urgentRun + 1) } := by
  simp [sent_of_some w h, Link.choose, hu, hr, hw]

theorem sent_notBelow (h : l.sending = some x) (hu : l.urgent = u :: us) (hr : l.routine = r :: rs)
    (hw : belowWeight w l.urgentRun = false) : l.sent w = { l with routine := rs, sending := some r, urgentRun := 0 } := by
  simp [sent_of_some w h, Link.choose, hu, hr, hw]

theorem sent_onlyRoutine (h : l.sending = some x) (hu : l.urgent = []) (hr : l.routine = r :: rs) :
    l.sent w = { l with routine := rs, sending := some r, urgentRun := 0 } := by
  simp [sent_of_some w h, Link.choose, hu, hr]

theorem sent_empty (h : l.sending = some x) (hu : l.urgent = []) (hr : l.routine = []) :
    l.sent w = { l with sending := none } := by
  simp [sent_of_some w h, Link.choose, hu, hr]

end

/-- Settles O37: the weights of URGENT_KINDS are the bits `isUrgent` reads, and each queueing clause is one case of the transmitter. -/
theorem reportQueueing : Obligations.ReportQueueing := by
  unfold Obligations.ReportQueueing
  intro urgentUnder
  have under (kinds : BitVec 6) (cls : ReportClass) : urgentUnder kinds cls = isUrgent kinds cls := by
    cases cls with
    | incident | tapSample => rfl
    | answerMove | answerHalt | answerOther | change | refer | stored =>
      simp only [urgentUnder, isUrgent, getLsbD_eq_decide, Nat.reducePow, Nat.div_one]
  refine ⟨fun s tag k st content => ?answer, fun s cls r x hx => ?busy, fun s cls r hs hu hr => ?idle,
    fun s x u r us rs hrun hx => ?finished, fun s hrun hs => ?nothingSent⟩
  case answer => rw [State.answer, answerClass_eq]
  case busy =>
    intro l urgent
    rw [queueReport_of_sending cls r hx, ← under]
    rfl
  case idle => rw [queueReport_of_idle cls r hs hu hr, under]
  case finished =>
    intro l below sendUrgent sendRoutine
    have below_iff : below ↔ belowWeight s.globals.wrr l.urgentRun = true := (belowWeight_iff _ _).symm
    rw [exec_reportSent_running hrun]
    refine ⟨fun hu hr => ?_, fun hu hr hb => ?_, fun hu hr hb => ?_, fun hu hr => ?_, fun hu hr => ?_⟩
    · rw [sent_onlyUrgent _ hx hu hr]
    · rw [sent_below _ hx hu hr (below_iff.1 hb)]
    · rw [sent_notBelow _ hx hu hr (by simpa [below_iff] using hb)]
    · rw [sent_onlyRoutine _ hx hu hr]
    · rw [sent_empty _ hx hu hr]
  case nothingSent => rw [exec_reportSent_running hrun, sent_of_none _ hs]

/-! ### The check of a frame (R143) -/

/-- 0x07 is odd: the lowest bit after a shift tells whether it was combined in. -/
theorem getLsbD_zero_crc8Shift (x : Byte) : (crc8Shift x).getLsbD 0 = x.msb := by
  unfold crc8Shift
  cases h : x.msb <;> simp

/-- A byte is its highest bit and what a shift leaves of it. -/
theorem eq_of_msb_of_shiftLeft {x y : Byte} (hmsb : x.msb = y.msb) (hshift : x <<< 1 = y <<< 1) : x = y := by
  refine BitVec.eq_of_getLsbD_eq fun i hi => ?_
  obtain rfl | hlow : i = 7 ∨ i < 7 := by omega
  · simpa [BitVec.msb_eq_getLsbD_last] using hmsb
  · have bit_shifted := congrArg (·.getLsbD (i + 1)) hshift
    have below : i + 1 < 8 := by omega
    simpa [below, hi] using bit_shifted

theorem crc8Shift_injective : Function.Injective crc8Shift := by
  intro x y h
  have msb_eq : x.msb = y.msb := by rw [← getLsbD_zero_crc8Shift, h, getLsbD_zero_crc8Shift]
  refine eq_of_msb_of_shiftLeft msb_eq ?_
  unfold crc8Shift at h
  rw [msb_eq] at h
  split at h
  · exact (BitVec.xor_left_inj _).1 h
  · exact h

/-- Eight shifts tell what they start from, here the running check combined with the byte. -/
theorem crc8Step_inj {x y a b : Byte} (h : crc8Step x a = crc8Step y b) : x ^^^ a = y ^^^ b := by
  unfold crc8Step at h
  iterate 8 replace h := crc8Shift_injective h
  exact h

theorem crc8Step_check_injective (b : Byte) : Function.Injective (crc8Step · b) := fun _ _ h =>
  (BitVec.xor_left_inj b).1 (crc8Step_inj h)

theorem crc8Step_byte_injective (x : Byte) : Function.Injective (crc8Step x) := fun _ _ h =>
  (BitVec.xor_right_inj x).1 (crc8Step_inj h)

/-- Whatever bytes follow, two running checks that differ come to two checks that differ. -/
theorem foldl_crc8Step_injective (bs : List Byte) : Function.Injective (bs.foldl crc8Step) := by
  induction bs with
  | nil => exact fun _ _ h => h
  | cons b bs ih => exact ih.comp (crc8Step_check_injective b)

/-- Settles O35: the running checks part at the byte that differs, and do not meet again. -/
theorem checkTellsOneByte : Obligations.CheckTellsOneByte := by
  intro before after x y hne h
  simp only [crc8, List.foldl_append, List.foldl_cons] at h
  exact hne (crc8Step_byte_injective _ (foldl_crc8Step_injective after h))

/-! ### The receive parser (R141, R142) -/

theorem exec_receiveByte_running {s : State} (b : Byte) (h : s.power = .running) :
    exec (.receiveByte b) s = .next (s.takeByte b) := by
  show execReceiveByte b s = _
  rw [execReceiveByte, whenRunning_eq _ h]

theorem exec_lineError_running {s : State} (h : s.power = .running) : exec .lineError s = .next s.takeLineError := by
  show execLineError s = _
  rw [execLineError, whenRunning_eq _ h]

theorem exec_gapTimerExpiry_running {s : State} (h : s.power = .running) :
    exec .gapTimerExpiry s = .next s.takeGapExpiry := by
  show execGapTimerExpiry s = _
  rw [execGapTimerExpiry, whenRunning_eq _ h]

/-- A discarded frame: the parser hunts again, and one counter has been raised (R142). -/
def dropFrame (s : State) (f : LinkCounters → LinkCounters) : State := (s.setParser huntParser).modCounters f

section
variable {s : State} {b : Byte}

theorem takeByte_hunt_skips (h : s.link.parser.state = .hunt) (hb : b ≠ 0x5A) : s.takeByte b = s := by
  simp only [State.takeByte, h, State.huntByte, if_neg hb]

theorem takeByte_hunt_sync (h : s.link.parser.state = .hunt) :
    s.takeByte 0x5A =
      s.setParser { state := .length, length := 0, bytes := [], crc := 0xFF, gapTimer := some 1 } := by
  simp [State.takeByte, h, State.huntByte, gapMs]

theorem takeByte_length_runt (h : s.link.parser.state = .length) :
    s.takeByte 0 = dropFrame s fun k => { k with dropRunt := k.dropRunt + 1 } := by
  simp [State.takeByte, h, State.lengthByte, dropFrame]

theorem takeByte_length_oversize (h : s.link.parser.state = .length) (hb : 49 ≤ b.toNat) :
    s.takeByte b = dropFrame s fun k => { k with dropOversize := k.dropOversize + 1 } := by
  have not_zero : b.toNat ≠ 0 := by omega
  have above : 48 < b.toNat := hb
  simp only [State.takeByte, h, State.lengthByte, if_neg not_zero, if_pos above, dropFrame]

theorem takeByte_length_kept (h : s.link.parser.state = .length) (hlow : 1 ≤ b.toNat) (hhigh : b.toNat ≤ 48) :
    s.takeByte b =
      s.setParser
        { state := .body, length := b.toNat, bytes := [], crc := crc8Step s.link.parser.crc b, gapTimer := some 1 } := by
  have not_zero : b.toNat ≠ 0 := by omega
  have not_above : ¬48 < b.toNat := by omega
  simp only [State.takeByte, h, State.lengthByte, if_neg not_zero, if_neg not_above, gapMs]

theorem takeByte_body (h : s.link.parser.state = .body) :
    s.takeByte b =
      s.setParser
        { state := if s.link.parser.bytes.length + 1 < s.link.parser.length then .body else .check
          length := s.link.parser.length, bytes := s.link.parser.bytes ++ [b], crc := crc8Step s.link.parser.crc b
          gapTimer := some 1 } := by
  simp only [State.takeByte, h, State.bodyByte, gapMs, ← Nat.not_lt, ite_not]

theorem takeByte_check_wrong (h : s.link.parser.state = .check) (hb : b ≠ s.link.parser.crc) :
    s.takeByte b = dropFrame s fun k => { k with dropCheck := k.dropCheck + 1 } := by
  simp only [State.takeByte, h, State.checkByte, if_neg hb, dropFrame]

theorem takeByte_check_right (h : s.link.parser.state = .check) :
    s.takeByte s.link.parser.crc =
      (s.setParser huntParser).takeFrame (byteAt s.link.parser.bytes 0) (s.link.parser.bytes.drop 1) := by
  simp only [State.takeByte, h, State.checkByte, if_true]

theorem inFrame_iff (p : Parser) : p.inFrame = true ↔ p.state ≠ .hunt := by
  obtain ⟨state, _, _, _, _⟩ := p
  cases state <;> simp [Parser.inFrame]

theorem takeLineError_inFrame (h : s.link.parser.state ≠ .hunt) :
    s.takeLineError = dropFrame s fun k => { k with dropLine := k.dropLine + 1 } :=
  if_pos ((inFrame_iff _).2 h)

theorem takeLineError_hunt (h : s.link.parser.state = .hunt) : s.takeLineError = s :=
  if_neg fun hframe => (inFrame_iff _).1 hframe h

theorem takeGapExpiry_running (h : s.link.parser.gapTimer ≠ none) :
    s.takeGapExpiry = dropFrame s fun k => { k with dropGap := k.dropGap + 1 } := by
  obtain ⟨t, ht⟩ := Option.ne_none_iff_exists'.1 h
  rw [State.takeGapExpiry, ht]
  rfl

theorem takeGapExpiry_stopped (h : s.link.parser.gapTimer = none) : s.takeGapExpiry = s := by
  rw [State.takeGapExpiry, h]

end

/-- Settles O36: one case of the parser per clause. -/
theorem parserTable : Obligations.ParserTable := by
  intro s b hrun p hunt comesTo
  simp only [exec_receiveByte_running _ hrun, exec_lineError_running hrun, exec_gapTimerExpiry_running hrun]
  refine ⟨fun h hb => ?_, fun h => ?_, fun h => ?_, fun h hb => ?_, fun h hlow hhigh => ?_, fun h => ?_, fun h hb => ?_,
    fun h => ?_, fun h => ?_, fun h => ?_, fun h => ?_⟩
  · rw [takeByte_hunt_skips h hb]
  · rw [takeByte_hunt_sync h]; rfl
  · rw [takeByte_length_runt h]; rfl
  · rw [takeByte_length_oversize h hb]; rfl
  · rw [takeByte_length_kept h hlow hhigh]; rfl
  · rw [takeByte_body h]; rfl
  · rw [takeByte_check_wrong h hb]; rfl
  · rw [takeLineError_inFrame h]; rfl
  · rw [takeLineError_hunt h]
  · rw [takeGapExpiry_running h]; rfl
  · rw [takeGapExpiry_stopped h]

end Sys2Proof.Machine.LinkRules
end

section
/-! SUPPORT. What the lines of the body link carry (sections 9.1 and 9.6): the bytes of a frame received one by one (R141 to R144), the
level of LTX in each bit time (R141, R153), and the frames of every report, with the content of an ANSWER in segments (R148, R149, R150). -/

namespace Sys2Proof.Machine.LineRules

open Sys2Proof.Machine.ProfileRules Sys2Proof.Machine.LogRules Sys2Proof.Machine.LinkRules

/-! ### Bytes received one by one (R142) -/

theorem runAll_receiveByte_cons {s : State} (b : Byte) (bs : List Byte) (h : s.power = .running) :
    runAll ((b :: bs).map .receiveByte) s = runAll (bs.map .receiveByte) (s.takeByte b) := by
  rw [List.map_cons, runAll, exec_receiveByte_running b h]

theorem runAll_setParser_cons {s : State} (q : Parser) (b : Byte) (bs : List Byte) (h : s.power = .running) :
    runAll ((b :: bs).map .receiveByte) (s.setParser q) = runAll (bs.map .receiveByte) ((s.setParser q).takeByte b) :=
  runAll_receiveByte_cons b bs h

/-- The parser within a frame whose length is `n` (R142): the bytes it has kept, and the check it runs. -/
def frameParser (state : ParserState) (n : Nat) (kept : List Byte) (crc : Byte) : Parser where
  state := state
  length := n
  bytes := kept
  crc := crc
  gapTimer := some 1

theorem setParser_setParser (s : State) (p q : Parser) : (s.setParser p).setParser q = s.setParser q := rfl

theorem setParser_self (s : State) : s.setParser s.link.parser = s := rfl

theorem takeByte_frameParser_body (s : State) (n : Nat) (kept : List Byte) (crc b : Byte) :
    (s.setParser (frameParser .body n kept crc)).takeByte b =
      s.setParser (frameParser (if kept.length + 1 < n then .body else .check) n (kept ++ [b]) (crc8Step crc b)) := by
  rw [takeByte_body rfl]
  rfl

/-- BODY keeps every byte and takes it into the check, up to the last one that the length announced. -/
theorem runAll_body {s : State} (n : Nat) {bs : List Byte} (kept rest : List Byte) (crc : Byte) (hrun : s.power = .running)
    (hbs : bs ≠ []) (hn : kept.length + bs.length = n) :
    runAll ((bs ++ rest).map .receiveByte) (s.setParser (frameParser .body n kept crc)) =
      runAll (rest.map .receiveByte) (s.setParser (frameParser .check n (kept ++ bs) (bs.foldl crc8Step crc))) := by
  induction bs generalizing kept crc with
  | nil => exact absurd rfl hbs
  | cons b bs ih =>
    rw [List.length_cons] at hn
    rw [List.cons_append, runAll_setParser_cons _ b _ hrun, takeByte_frameParser_body]
    by_cases more : kept.length + 1 < n
    · have left : bs ≠ [] := by rintro rfl; simp at hn; omega
      rw [if_pos more, ih (kept ++ [b]) _ left (by simp; omega), List.append_assoc]
      rfl
    · obtain rfl : bs = [] := List.eq_nil_of_length_eq_zero (by omega)
      rw [if_neg more]
      rfl

/-- From HUNT to CHECK: the sync byte, the length and the bytes of a frame's body. -/
theorem runAll_frame {s : State} (kind : Byte) (p rest : List Byte) (hrun : s.power = .running) (hp : p.length ≤ 47)
    (hhunt : s.link.parser = huntParser) :
    runAll ((0x5A :: byteOf (p.length + 1) :: kind :: p ++ rest).map .receiveByte) s =
      runAll (rest.map .receiveByte)
        (s.setParser (frameParser .check (p.length + 1) (kind :: p) (crc8 (byteOf (p.length + 1) :: kind :: p)))) := by
  have length_eq : (byteOf (p.length + 1)).toNat = p.length + 1 := by simp [byteOf]; omega
  have hunting : s.link.parser.state = .hunt := by rw [hhunt]; rfl
  rw [List.cons_append, runAll_receiveByte_cons _ _ hrun, takeByte_hunt_sync hunting, List.cons_append,
    runAll_setParser_cons _ _ _ hrun, takeByte_length_kept rfl (by omega) (by omega), setParser_setParser, length_eq]
  exact runAll_body (p.length + 1) (bs := kind :: p) [] rest _ hrun (by simp) (by simp)

theorem takeByte_frameParser_check_right (s : State) (n : Nat) (kind : Byte) (p : List Byte) (crc : Byte) :
    (s.setParser (frameParser .check n (kind :: p) crc)).takeByte crc = (s.setParser huntParser).takeFrame kind p :=
  takeByte_check_right (s := s.setParser (frameParser .check n (kind :: p) crc)) rfl

theorem takeByte_frameParser_check_wrong (s : State) (n : Nat) (kept : List Byte) {crc x : Byte} (h : x ≠ crc) :
    (s.setParser (frameParser .check n kept crc)).takeByte x =
      dropFrame s fun k => { k with dropCheck := k.dropCheck + 1 } :=
  takeByte_check_wrong (s := s.setParser (frameParser .check n kept crc)) rfl h

theorem setParser_hunt_of_hunt {s : State} (h : s.link.parser = huntParser) : s.setParser huntParser = s := by
  rw [← h, setParser_self]

/-- The whole frame with its check: the frame is taken as its own command takes it (R144). -/
theorem runAll_frame_right {s : State} (kind : Byte) (p : List Byte) (hrun : s.power = .running) (hp : p.length ≤ 47)
    (hhunt : s.link.parser = huntParser) :
    runAll ((frameOf kind p).map .receiveByte) s = exec (.unknownKind kind p) s := by
  rw [frameOf, runAll_frame kind p _ hrun hp hhunt, runAll_setParser_cons _ _ _ hrun,
    takeByte_frameParser_check_right, setParser_hunt_of_hunt hhunt, exec_unknownKind_running kind p hrun]
  rfl

/-- The whole frame with another check: it is dropped and counted (R142). -/
theorem runAll_frame_wrong {s : State} (kind : Byte) (p : List Byte) {x : Byte} (hrun : s.power = .running)
    (hp : p.length ≤ 47) (hhunt : s.link.parser = huntParser) (hx : x ≠ crc8 (byteOf (p.length + 1) :: kind :: p)) :
    runAll ((0x5A :: byteOf (p.length + 1) :: kind :: p ++ [x]).map .receiveByte) s =
      .next (s.modCounters fun k => { k with dropCheck := k.dropCheck + 1 }) := by
  rw [runAll_frame kind p _ hrun hp hhunt, runAll_setParser_cons _ _ _ hrun,
    takeByte_frameParser_check_wrong _ _ _ hx, dropFrame, setParser_hunt_of_hunt hhunt]
  rfl

/-! ### The levels of the lines (R141, R153) -/

theorem flatMap_byteLevels_getElem? {bs : List Byte} {n : Nat} {b : Byte} (h : bs[n]? = some b) {i : Nat} (hi : i < 10) :
    (bs.flatMap byteLevels)[10 * n + i]? = (byteLevels b)[i]? := by
  induction bs generalizing n with
  | nil => simp at h
  | cons a bs ih =>
    rw [List.flatMap_cons]
    cases n with
    | zero =>
      obtain rfl : a = b := by simpa using h
      rw [List.getElem?_append_left (by simpa using hi), Nat.mul_zero, Nat.zero_add]
    | succ n =>
      have at_n : bs[n]? = some b := by simpa using h
      rw [List.getElem?_append_right (by simp; omega), byteLevels_length, ← ih at_n]
      congr 1
      omega

theorem byteLevels_data (b : Byte) {i : Nat} (hi : i < 8) : (byteLevels b)[1 + i]? = some (b.getLsbD i) := by
  rw [byteLevels, List.cons_append, Nat.add_comm 1 i, List.getElem?_cons_succ, List.getElem?_append_left (by simpa using hi)]
  simp [hi]

section
variable {l : Link} {r : Report}

theorem ltx_of_sending (h : l.sending = some r) (n : Nat) : l.ltx n = ((reportLevels r)[n]?).getD true := by
  rw [Link.ltx, h]

/-- Within the bit times of a byte of the report, LTX carries that byte's levels. -/
theorem ltx_of_byte (h : l.sending = some r) {n : Nat} {b : Byte} (hb : (reportBytes r)[n]? = some b) {i : Nat} (hi : i < 10) :
    l.ltx (10 * n + i) = ((byteLevels b)[i]?).getD true := by
  rw [ltx_of_sending h, reportLevels, flatMap_byteLevels_getElem? hb hi]

theorem ltx_after (h : l.sending = some r) {n : Nat} (hn : sendMicros r ≤ n) : l.ltx n = true := by
  have beyond : (reportLevels r).length ≤ n := by rwa [reportLevels_length]
  rw [ltx_of_sending h, List.getElem?_eq_none beyond]
  rfl

end

theorem sendMicros_eq (r : Report) : sendMicros r = 10 * (reportBytes r).length := by
  rw [← reportLevels_length, reportLevels, flatMap_byteLevels_length, Nat.mul_comm]

/-! ### The segments of an answer (R148, R150) -/

/-- Fields grouped into segments of at most 42 bytes, each group as long as it can be. `opened` is the group still open. -/
def fieldGroups (opened : List (List Byte)) : List (List Byte) → List (List (List Byte))
  | [] => [opened]
  | f :: fs =>
    if opened.flatten.length + f.length ≤ 42 then fieldGroups (opened ++ [f]) fs else opened :: fieldGroups [f] fs

theorem segmentsFrom_flatten (opened fields : List (List Byte)) :
    segmentsFrom opened.flatten fields = (fieldGroups opened fields).map List.flatten := by
  induction fields generalizing opened with
  | nil => rfl
  | cons f fs ih =>
    simp only [segmentsFrom, fieldGroups]
    split
    · rw [← ih, List.flatten_append, List.flatten_singleton]
    · rw [List.map_cons, ← ih, List.flatten_singleton]

theorem segments_eq (content : List (List Byte)) : segments content = (fieldGroups [] content).map List.flatten :=
  segmentsFrom_flatten [] content

theorem fieldGroups_flatten (opened fields : List (List Byte)) : (fieldGroups opened fields).flatten = opened ++ fields := by
  induction fields generalizing opened with
  | nil => simp [fieldGroups]
  | cons f fs ih =>
    simp only [fieldGroups]
    split
    · simp [ih]
    · simp [ih]

/-- The first group begins with the group still open. -/
theorem fieldGroups_eq_cons (opened fields : List (List Byte)) :
    ∃ more rest, fieldGroups opened fields = (opened ++ more) :: rest := by
  induction fields generalizing opened with
  | nil => exact ⟨[], [], by simp [fieldGroups]⟩
  | cons f fs ih =>
    simp only [fieldGroups]
    split
    · obtain ⟨more, rest, h⟩ := ih (opened ++ [f])
      exact ⟨f :: more, rest, by rw [h, List.append_assoc]; rfl⟩
    · exact ⟨[], _, by rw [List.append_nil]⟩

theorem fieldGroups_ne_nil (opened fields : List (List Byte)) : fieldGroups opened fields ≠ [] := by
  obtain ⟨more, rest, h⟩ := fieldGroups_eq_cons opened fields
  rw [h]
  exact List.cons_ne_nil _ _

theorem length_of_mem_fieldGroups {opened fields : List (List Byte)} (hopened : opened.flatten.length ≤ 42)
    (hfields : ∀ f ∈ fields, f.length ≤ 42) {g : List (List Byte)} (hg : g ∈ fieldGroups opened fields) :
    g.flatten.length ≤ 42 := by
  induction fields generalizing opened with
  | nil =>
    obtain rfl : g = opened := by simpa [fieldGroups] using hg
    exact hopened
  | cons f fs ih =>
    obtain ⟨hf, hfs⟩ := List.forall_mem_cons.1 hfields
    simp only [fieldGroups] at hg
    split at hg
    case isTrue fits => exact ih (by simpa using fits) hfs hg
    case isFalse =>
      rcases List.mem_cons.1 hg with rfl | hrest
      · exact hopened
      · exact ih (by simpa using hf) hfs hrest

/-- Every group but the last is closed because the first field of the next group does not fit any more. -/
theorem fieldGroups_maximal {opened fields : List (List Byte)} {n : Nat} {g : List (List Byte)}
    (hg : (fieldGroups opened fields)[n]? = some g) (hn : n + 1 < (fieldGroups opened fields).length) :
    ∃ f rest, (fieldGroups opened fields)[n + 1]? = some (f :: rest) ∧ 42 < g.flatten.length + f.length := by
  induction fields generalizing opened n with
  | nil => exact absurd hn (Nat.not_lt.2 (Nat.le_add_left 1 n))
  | cons f fs ih =>
    simp only [fieldGroups] at hg hn ⊢
    split at hg
    case isTrue fits =>
      rw [if_pos fits] at hn ⊢
      exact ih hg hn
    case isFalse full =>
      rw [if_neg full] at hn ⊢
      rw [List.getElem?_cons_succ]
      cases n with
      | zero =>
        obtain rfl : opened = g := Option.some.inj hg
        obtain ⟨more, rest, first⟩ := fieldGroups_eq_cons [f] fs
        exact ⟨f, more, by rw [first]; rfl, Nat.lt_of_not_le full⟩
      | succ n => exact ih hg (Nat.lt_of_succ_lt_succ hn)

theorem answerPayloads_eq (tag kind : Byte) (status : Status) (content : List (List Byte)) :
    reportPayloads (.answer tag kind status content) =
      (fieldGroups [] content).mapIdx fun n g =>
        [tag, kind, byteOf (Status.code status), byteOf n, byteOf (fieldGroups [] content).length] ++ g.flatten := by
  refine List.ext_getElem? fun n => ?_
  simp [reportPayloads, segments_eq, List.getElem?_mapIdx, Function.comp_def]

/-! ### The statement -/

/-- Settles O34: the parser's way through a frame, the ten levels of each byte, and the groups of `fieldGroups` as an answer's segments. The
layouts and codes hold by definition, an incident's once its groups are known to be there or not. -/
theorem frameBytesAreTheFrame : Obligations.FrameBytesAreTheFrame := by
  refine ⟨fun s kind x p hrun hp hhunt => ?bytes, fun l n h => Link.ltx_idle l n h, fun l r n b h hb => ?levels,
    fun l r n h hn => ltx_after h hn, fun b => ⟨receivedAs_byteLevels b, rfl⟩, ⟨rfl, fun bs b => ?check⟩,
    fun kind p => rfl, sendMicros_eq, rfl, rfl, rfl, rfl, rfl, rfl, fun tag kind status content hcontent => ?answer,
    fun r => ?incident, fun n => ?change, fun tag kind source mask content => ?refer, fun x skipped => ?tap,
    fun op wrong => ?stored⟩
  case bytes => exact ⟨runAll_frame_right kind p hrun hp hhunt, runAll_frame_wrong kind p hrun hp hhunt⟩
  case levels =>
    refine ⟨ltx_of_byte h hb (i := 0) (by decide), fun i hi => ?_, ltx_of_byte h hb (i := 9) (by decide)⟩
    rw [Nat.add_assoc, ltx_of_byte h hb (by omega), byteLevels_data b hi]
    rfl
  case check =>
    rw [crc8, List.foldl_append]
    rfl
  case answer =>
    exact ⟨fieldGroups [] content, fieldGroups_ne_nil _ _, fieldGroups_flatten [] content,
      fun g => length_of_mem_fieldGroups (by simp) hcontent, fun n g => fieldGroups_maximal,
      congrArg (fun ps => (ps.map (frameOf 0x81)).flatten) (answerPayloads_eq tag kind status content)⟩
  case incident =>
    refine congrArg (fun p => ([p].map (frameOf 0x82)).flatten) ?_
    cases hpinch : r.pinch with
    | none => cases hband : r.band <;> simp [incidentFields, hpinch, hband]
    | some g => cases hband : r.band <;> simp [incidentFields, hpinch, hband]
  case change => rfl
  case refer => rfl
  case tap => rfl
  case stored => rfl

end Sys2Proof.Machine.LineRules
end

section
/-! SUPPORT. The answers to an ASK (R147, R150): the coding of the fields, the way of each topic's frame to its answer, and the bytes that
name nothing. -/

namespace Sys2Proof.Machine.AskRules

open Sys2Proof.Machine.ProfileRules Sys2Proof.Machine.LogRules Sys2Proof.Machine.SourceRules

/-! ### The coding of numbers (R150) -/

/-- A byte of a signed number is fixed by the number modulo 256. -/
theorem byteOf_eq_ofInt {n : Nat} {x : Int} (h : (n : Int) % 256 = x % 256) : byteOf n = BitVec.ofInt 8 x := by
  refine BitVec.eq_of_toNat_eq ?_
  simp only [byteOf, BitVec.toNat_ofNat, BitVec.toNat_ofInt]
  omega

theorem i8_eq (x : Int) : i8 x = [BitVec.ofInt 8 x] := by
  rw [i8, u8, byteOf_eq_ofInt (x := x) (by omega)]

theorem i16_eq (x : Int) : i16 x = [BitVec.ofInt 8 x, BitVec.ofInt 8 (x / 256)] := by
  rw [i16, u16, byteOf_eq_ofInt (x := x) (by omega), byteOf_eq_ofInt (x := x / 256) (by omega)]

theorem i32_eq (x : Int) :
    i32 x = [BitVec.ofInt 8 x, BitVec.ofInt 8 (x / 256), BitVec.ofInt 8 (x / 65536), BitVec.ofInt 8 (x / 16777216)] := by
  rw [i32, u32, byteOf_eq_ofInt (x := x) (by omega), byteOf_eq_ofInt (x := x / 256) (by omega),
    byteOf_eq_ofInt (x := x / 65536) (by omega), byteOf_eq_ofInt (x := x / 16777216) (by omega)]

/-! ### The place in the start queue -/

theorem queuePlace_of_absent {q : List QueueEntry} {c : Channel} (h : ∀ e ∈ q, e.channel ≠ c) : queuePlace c q = (0, 0) := by
  have absent : (q.findIdx? fun e => decide (e.channel = c)) = none := by simpa using h
  rw [queuePlace, absent]

theorem queuePlace_of_first {before : List QueueEntry} (after : List QueueEntry) {e : QueueEntry}
    (h : ∀ x ∈ before, x.channel ≠ e.channel) :
    queuePlace e.channel (before ++ e :: after) = (before.length, e.passes) := by
  have absent : (before.findIdx? fun x => decide (x.channel = e.channel)) = none := by simpa using h
  have found : ((before ++ e :: after).findIdx? fun x => decide (x.channel = e.channel)) = some before.length := by
    simp [List.findIdx?_append, absent, List.findIdx?_cons]
  rw [queuePlace, found]
  simp

/-! ### From the row to its topic (R144, R147) -/

section
variable {s : State} {tag src : Byte}

theorem exec_askChannel_named (a b d : Byte) (hrun : s.power = .running) (hsrc : namesSource src) :
    exec (.askChannel tag src a b d) s = .next (s.counted.askChannel tag a b) := exec_ask_named 0 a b d hrun hsrc

theorem exec_askProfile_named (a b d : Byte) (hrun : s.power = .running) (hsrc : namesSource src) :
    exec (.askProfile tag src a b d) s = .next (s.counted.askProfile tag a b d) := exec_ask_named 1 a b d hrun hsrc

theorem exec_askIncident_named (a b d : Byte) (hrun : s.power = .running) (hsrc : namesSource src) :
    exec (.askIncident tag src a b d) s = .next (s.counted.askIncident tag a b) := exec_ask_named 2 a b d hrun hsrc

theorem exec_askCounters_named (a b d : Byte) (hrun : s.power = .running) (hsrc : namesSource src) :
    exec (.askCounters tag src a b d) s = .next (s.counted.askCounters tag a) := exec_ask_named 3 a b d hrun hsrc

theorem exec_askLink_named (a b d : Byte) (hrun : s.power = .running) (hsrc : namesSource src) :
    exec (.askLink tag src a b d) s = .next (s.counted.askLink tag) := exec_ask_named 4 a b d hrun hsrc

theorem exec_askSetting_named (a b d : Byte) (hrun : s.power = .running) (hsrc : namesSource src) :
    exec (.askSetting tag src a b d) s = .next (s.counted.askSetting tag a b) := exec_ask_named 5 a b d hrun hsrc

theorem exec_askPermit_named (a b d : Byte) (hrun : s.power = .running) (hsrc : namesSource src) :
    exec (.askPermit tag src a b d) s = .next (s.counted.askPermit tag a) := exec_ask_named 6 a b d hrun hsrc

end

/-! ### Topic CHANNEL -/

theorem channelPartOfByte_eq_none {b : Byte} (h : 4 ≤ b.toNat) : channelPartOfByte b = none := by
  obtain ⟨n, hn⟩ := Nat.exists_eq_add_of_le' h
  simp [channelPartOfByte, hn]

theorem channelPartOfByte_eq_shared {b : Byte} (h : channelPartOfByte b = some .shared) : b = 3 := by
  unfold channelPartOfByte at h
  split at h
  case h_4 hb => exact BitVec.eq_of_toNat_eq hb
  all_goals cases h

section
variable (s : State) (tag : Byte)

theorem askChannel_motion (c : Channel) : s.askChannel tag (channelByte c) 0 = s.answer tag .ask .done (s.motionFields c) := by
  simp [State.askChannel, channelPartOfByte, channelOfByte_channelByte]

theorem askChannel_position (c : Channel) :
    s.askChannel tag (channelByte c) 1 = s.answer tag .ask .done (s.positionFields c) := by
  simp [State.askChannel, channelPartOfByte, channelOfByte_channelByte]

theorem askChannel_sample (c : Channel) : s.askChannel tag (channelByte c) 2 = s.answer tag .ask .done (s.sampleFields c) := by
  simp [State.askChannel, channelPartOfByte, channelOfByte_channelByte]

theorem askChannel_shared (chan : Byte) : s.askChannel tag chan 3 = s.answer tag .ask .done s.sharedFields := rfl

theorem askChannel_unnamed_part (chan : Byte) {part : Byte} (h : 4 ≤ part.toNat) :
    s.askChannel tag chan part = s.answer tag .ask .malformed [] := by
  rw [State.askChannel, channelPartOfByte_eq_none h]
  rfl

/-- Only the part SHARED disregards the channel. -/
theorem askChannel_unnamed_channel {chan part : Byte} (h : 8 ≤ chan.toNat) (hpart : part ≠ 3) :
    s.askChannel tag chan part = s.answer tag .ask .malformed [] := by
  unfold State.askChannel
  cases hp : channelPartOfByte part with
  | none => rfl
  | some x =>
    cases x with
    | shared => exact absurd (channelPartOfByte_eq_shared hp) hpart
    | motion | position | sample => simp only [channelOfByte_eq_none h]; rfl

/-! ### The other topics -/

theorem askProfile_named (c : Channel) (first number : Byte) :
    s.askProfile tag (channelByte c) first number =
      let span := profileSpan first.toNat number.toNat
      s.answer tag .ask (if span.1 = first.toNat ∧ span.2 = number.toNat then .done else .clamped)
        (s.profileFields c span.1 span.2) := by
  simp only [State.askProfile, channelOfByte_channelByte, Prod.ext_iff]

theorem askProfile_unnamed {chan : Byte} (first number : Byte) (h : 8 ≤ chan.toNat) :
    s.askProfile tag chan first number = s.answer tag .ask .malformed [] := by
  rw [State.askProfile, channelOfByte_eq_none h]
  rfl

theorem askCounters_named (c : Channel) :
    s.askCounters tag (channelByte c) = s.answer tag .ask .done (countersFields (s.slice c).ctr) := by
  rw [State.askCounters, channelOfByte_channelByte]

theorem askCounters_unnamed {chan : Byte} (h : 8 ≤ chan.toNat) :
    s.askCounters tag chan = s.answer tag .ask .malformed [] := by
  rw [State.askCounters, channelOfByte_eq_none h]
  rfl

theorem askSetting_perChannel {item : Byte} {i : ChItem} (c : Channel) (h : itemOfCode item.toNat = some (.perChannel i)) :
    s.askSetting tag item (channelByte c) =
      s.answer tag .ask .done [[item], [channelByte c], i32 (chItemValue (s.slice c).cfg i)] := by
  simp only [State.askSetting, h, channelOfByte_channelByte]

theorem askSetting_unnamed_channel {item chan : Byte} {i : ChItem} (h : itemOfCode item.toNat = some (.perChannel i))
    (hchan : 8 ≤ chan.toNat) : s.askSetting tag item chan = s.answer tag .ask .malformed [] := by
  simp only [State.askSetting, h, channelOfByte_eq_none hchan]
  rfl

theorem askSetting_global {item : Byte} {i : GlItem} (chan : Byte) (h : itemOfCode item.toNat = some (.global i)) :
    s.askSetting tag item chan = s.answer tag .ask .done [[item], [chan], i32 (glItemValue s.globals i)] := by
  simp only [State.askSetting, h]

theorem askSetting_unnamed_item {item : Byte} (chan : Byte) (h : itemOfCode item.toNat = none) :
    s.askSetting tag item chan = s.answer tag .ask .malformed [] := by
  rw [State.askSetting, h]
  rfl

theorem askPermit_named {src : Byte} {x : Source} (h : sourceOfByte src = some x) :
    s.askPermit tag src = s.answer tag .ask .done (s.permitFields x) := by
  rw [State.askPermit, h]

theorem askPermit_unnamed {src : Byte} (h : 8 ≤ src.toNat) : s.askPermit tag src = s.answer tag .ask .malformed [] := by
  rw [State.askPermit, sourceOfByte_eq_none h]
  rfl

end

/-! ### The fields of a PERMIT answer (R139) -/

theorem byteOf_code_of_sourceOfByte {b : Byte} {x : Source} (h : sourceOfByte b = some x) : byteOf (Source.code x) = b := by
  unfold sourceOfByte at h
  split at h
  case h_9 => cases h
  all_goals next hb => cases h; exact BitVec.eq_of_toNat_eq hb.symm

theorem map_toList {α β : Type} (o : Octet α) (f : α → β) : o.toList.map f = (List.finRange 8).map fun i => f (o.get i) := rfl

/-- The weight 2^n of R150 for the member of index n. -/
theorem maskOf_eq_sum (o : Octet Bool) : maskOf o = ((List.finRange 8).map fun i => if o.get i then 2 ^ i.val else 0).sum := by
  simp only [maskOf, Nat.add_assoc]
  rfl

theorem permitFields_eq {s : State} {b : Byte} {x : Source} (h : sourceOfByte b = some x) :
    s.permitFields x =
      [[b]] ++ ((List.finRange 8).map fun i => u8 (Perm.code ((s.perms.get (Source.index x)).get i))) ++
        [flag (s.priv.get (Source.index x)),
          [BitVec.ofNat 8 (((List.finRange 8).map fun i => if s.priv.get i then 2 ^ i.val else 0).sum)]] := by
  rw [State.permitFields, map_toList, u8, byteOf_code_of_sourceOfByte h, maskOf_eq_sum]
  rfl

/-! ### The statement -/

/-- Settles O20: each row is the frame of its topic, whose fields the model lists in the same order, so that the codings, the place in the
queue, the status of a PROFILE and the two masks of a PERMIT are what is left to say. -/
theorem askAnswersItsTopic : Obligations.AskAnswersItsTopic := by
  refine ⟨⟨fun n => ⟨rfl, rfl, rfl⟩, fun x => ⟨i8_eq x, i16_eq x, i32_eq x⟩, rfl, rfl, rfl, fun n => rfl, rfl, rfl, rfl, rfl,
    rfl, rfl, rfl, rfl, rfl, rfl, rfl, rfl, rfl, rfl, rfl⟩, fun q c => queuePlace_of_absent,
    fun before after e => queuePlace_of_first after, ?_⟩
  intro s tag src a b d c hrun hsrc u sl k answered moveOf
  refine ⟨?motion, ?position, ?sample, ?shared, ?noChannel, ?noPart, ?profile, ?noProfile, ?incident, ?counters, ?noCounters,
    ?link, ?perChannel, ?noItemChannel, ?global, ?noItem, ?permit, ?noPermit⟩
  case motion => exact (exec_askChannel_named _ 0 d hrun hsrc).trans (congrArg _ (askChannel_motion u tag c))
  case position => exact (exec_askChannel_named _ 1 d hrun hsrc).trans (congrArg _ (askChannel_position u tag c))
  case sample => exact (exec_askChannel_named _ 2 d hrun hsrc).trans (congrArg _ (askChannel_sample u tag c))
  case shared => exact (exec_askChannel_named a 3 d hrun hsrc).trans (congrArg _ (askChannel_shared u tag a))
  case noChannel =>
    intro ha part hpart
    exact (exec_askChannel_named a part d hrun hsrc).trans (congrArg _ (askChannel_unnamed_channel u tag ha hpart))
  case noPart =>
    intro hb
    exact (exec_askChannel_named a b d hrun hsrc).trans (congrArg _ (askChannel_unnamed_part u tag a hb))
  case profile => exact (exec_askProfile_named _ a b hrun hsrc).trans (congrArg _ (askProfile_named u tag c a b))
  case noProfile =>
    intro hd
    exact (exec_askProfile_named d a b hrun hsrc).trans (congrArg _ (askProfile_unnamed u tag a b hd))
  case incident => exact exec_askIncident_named a b d hrun hsrc
  case counters => exact (exec_askCounters_named _ b d hrun hsrc).trans (congrArg _ (askCounters_named u tag c))
  case noCounters =>
    intro ha
    exact (exec_askCounters_named a b d hrun hsrc).trans (congrArg _ (askCounters_unnamed u tag ha))
  case link => exact exec_askLink_named a b d hrun hsrc
  case perChannel =>
    intro i hi
    exact (exec_askSetting_named a _ d hrun hsrc).trans (congrArg _ (askSetting_perChannel u tag c hi))
  case noItemChannel =>
    intro i hi hb
    exact (exec_askSetting_named a b d hrun hsrc).trans (congrArg _ (askSetting_unnamed_channel u tag hi hb))
  case global =>
    intro i hi
    exact (exec_askSetting_named a b d hrun hsrc).trans (congrArg _ (askSetting_global u tag b hi))
  case noItem =>
    intro ha
    exact (exec_askSetting_named a b d hrun hsrc).trans (congrArg _ (askSetting_unnamed_item u tag b ha))
  case permit =>
    intro x hx
    rw [← permitFields_eq hx]
    exact (exec_askPermit_named a b d hrun hsrc).trans (congrArg _ (askPermit_named u tag hx))
  case noPermit =>
    intro ha
    exact (exec_askPermit_named a b d hrun hsrc).trans (congrArg _ (askPermit_unnamed u tag ha))

end Sys2Proof.Machine.AskRules
end

section
/-! SUPPORT. A SET (R154) from its frame to its answer: the codes and ranges of the items (R155), the value an item takes and what follows
from it in the rest of the part (R9, R14, R35, R37, R57, R62, R91, R114, R115, R117), the tests a SET can fail, and LOCK (R156). -/

namespace Sys2Proof.Machine.SettingRules
open Sys2Proof.Machine.ProfileRules Sys2Proof.Machine.LogRules Sys2Proof.Machine.SourceRules

/-! ### The codes (R154, R155) -/

theorem itemOfCode_perChannel_iff (n : Nat) (i : ChItem) : itemOfCode n = some (.perChannel i) ↔ chItems[n]? = some i := by
  have length_eq : chItems.length = 44 := rfl
  unfold itemOfCode
  split
  case isTrue => simp
  case isFalse h => simp [List.getElem?_eq_none (show chItems.length ≤ n by omega)]

theorem itemOfCode_global_iff (n : Nat) (i : GlItem) :
    itemOfCode n = some (.global i) ↔ 64 ≤ n ∧ glItems[n - 64]? = some i := by
  unfold itemOfCode
  split
  case isTrue h => simp; omega
  case isFalse h => simp; omega

theorem kindOfCode_code (k : Kind) : kindOfCode (Kind.code k) = some k := by cases k <;> rfl

theorem aggModeOfCode_code (m : AggMode) : aggModeOfCode (AggMode.code m) = some m := by cases m <;> rfl

theorem kind_of_code {v : Int} (hlow : 0 ≤ v) (hhigh : v ≤ 3) : ∃ k : Kind, v = Kind.code k := by
  obtain rfl | rfl | rfl | rfl : v = 0 ∨ v = 1 ∨ v = 2 ∨ v = 3 := by omega
  · exact ⟨.window, rfl⟩
  · exact ⟨.vent, rfl⟩
  · exact ⟨.roofPanel, rfl⟩
  · exact ⟨.roofShade, rfl⟩

theorem aggMode_of_code {v : Int} (hlow : 0 ≤ v) (hhigh : v ≤ 2) : ∃ m : AggMode, v = AggMode.code m := by
  obtain rfl | rfl | rfl : v = 0 ∨ v = 1 ∨ v = 2 := by omega
  · exact ⟨.run, rfl⟩
  · exact ⟨.count, rfl⟩
  · exact ⟨.rise, rfl⟩

theorem kindOfCode_eq_none {v : Int} (h : v < 0 ∨ 3 < v) : kindOfCode v = none := by
  simp only [kindOfCode]
  repeat rw [if_neg (by omega)]

theorem aggModeOfCode_eq_none {v : Int} (h : v < 0 ∨ 2 < v) : aggModeOfCode v = none := by
  simp only [aggModeOfCode]
  repeat rw [if_neg (by omega)]

/-! ### The value a per-channel item takes -/

theorem chItemRange_fst_nonneg (g : GlobalSettings) (k : ChannelSettings) (i : ChItem) : 0 ≤ (chItemRange g k i).1 := by
  cases i <;> simp [chItemRange]

theorem chItemTaken_of_ne_mode (g : GlobalSettings) (k : ChannelSettings) {i : ChItem} (v : Int) (h : i ≠ .mode) :
    chItemTaken g k i v = max (chItemRange g k i).1 (min (chItemRange g k i).2 v) := by
  cases i
  case mode => exact absurd rfl h
  all_goals rfl

/-- R100, R154: the nearest value of the range, but that a MODE that names none stays as it was. -/
theorem chItemTaken_eq (g : GlobalSettings) (k : ChannelSettings) (i : ChItem) (v : Int) :
    chItemTaken g k i v =
      if i = .mode ∧ (v < 0 ∨ 2 < v) then (AggMode.code k.mode : Int)
      else max (chItemRange g k i).1 (min (chItemRange g k i).2 v) := by
  by_cases hmode : i = .mode
  · subst hmode
    by_cases hnone : v < 0 ∨ 2 < v
    · simp [chItemTaken, aggModeOfCode_eq_none hnone, hnone]
    · obtain ⟨m, rfl⟩ := aggMode_of_code (v := v) (by omega) (by omega)
      rw [if_neg fun h => hnone h.2]
      simp only [chItemTaken, aggModeOfCode_code, chItemRange]
      omega
  · rw [chItemTaken_of_ne_mode g k v hmode, if_neg (by simp [hmode])]

theorem chItemTaken_nonneg (g : GlobalSettings) (k : ChannelSettings) (i : ChItem) (v : Int) : 0 ≤ chItemTaken g k i v := by
  rw [chItemTaken_eq]
  have := chItemRange_fst_nonneg g k i
  split <;> omega

theorem chItemTaken_kind_le (g : GlobalSettings) (k : ChannelSettings) (v : Int) : chItemTaken g k .kind v ≤ 3 := by
  rw [chItemTaken_of_ne_mode g k v (by decide)]
  simp only [chItemRange]
  omega

theorem chItemTaken_kind_code (g : GlobalSettings) (k : ChannelSettings) (m : Kind) :
    chItemTaken g k .kind (Kind.code m) = Kind.code m := by
  cases m <;> rfl

theorem exists_aggMode_chItemTaken (g : GlobalSettings) (k : ChannelSettings) (v : Int) :
    ∃ m : AggMode, chItemTaken g k .mode v = AggMode.code m := by
  simp only [chItemTaken]
  split
  · exact ⟨_, rfl⟩
  · exact ⟨_, rfl⟩

/-- Off the diagonal of the two items the entry read is not the one written. -/
theorem chItemValue_putChItem_of_ne (k : ChannelSettings) {i j : ChItem} (w : Int) (h : j ≠ i) :
    chItemValue (putChItem k i w) j = chItemValue k j := by
  cases i <;> cases j <;> first | rfl | exact absurd rfl h

theorem chItemValue_putChItem_taken (g : GlobalSettings) (k : ChannelSettings) (i : ChItem) (v : Int) :
    chItemValue (putChItem k i (chItemTaken g k i v)) i = chItemTaken g k i v := by
  have nonneg := chItemTaken_nonneg g k i v
  cases i
  case kind =>
    obtain ⟨m, hm⟩ := kind_of_code nonneg (chItemTaken_kind_le g k v)
    rw [hm]
    simp [putChItem, chItemValue, kindOfCode_code]
  case mode =>
    obtain ⟨m, hm⟩ := exists_aggMode_chItemTaken g k v
    rw [hm]
    simp [putChItem, chItemValue, aggModeOfCode_code]
  all_goals exact Int.toNat_of_nonneg nonneg

theorem chItemValue_chItemFollow_self (g : GlobalSettings) (i : ChItem) (k : ChannelSettings) :
    chItemValue (chItemFollow g i k) i = chItemValue k i := by
  cases i <;> rfl

/-! ### What an accepted SET of a per-channel item does, item by item -/

/-- The items whose taking changes more than themselves. -/
def itemsWithEffect : List ChItem :=
  [.travel, .winLen, .bFloor, .bCeil, .sMax, .nHeld, .creditMax, .iStart, .iRun, .kind]

theorem modSlice_congr (s : State) {c : Channel} {f g : Slice → Slice} (h : f (s.slice c) = g (s.slice c)) :
    s.modSlice c f = s.modSlice c g :=
  congrArg (fun x => { s with ch := s.ch.set c x }) h

theorem setChItem_plain (s : State) (c : Channel) {i : ChItem} (w : Int) (h : i ∉ itemsWithEffect) :
    s.setChItem c i w = s.modCfg c fun k => putChItem k i w := by
  cases i
  case travel | winLen | bFloor | bCeil | sMax | nHeld | creditMax | iStart | iRun | kind =>
    exact absurd (by decide) h
  all_goals rfl

/-- A slice under a taken TRAVEL (R14, R117, R155): SEAL_BAND within it, no reference, an empty profile. -/
def underTravel (travel : Nat) (x : Slice) : Slice :=
  { x with
    cfg := { x.cfg with travel := travel, sealBand := min x.cfg.sealBand (travel / 4) }
    trk := { x.trk with referenced := false }
    prf := { x.prf with zones := emptyZones } }

theorem setChItem_travel (s : State) (c : Channel) (w : Int) :
    s.setChItem c .travel w =
      (s.modSlice c (underTravel w.toNat)).noticeReferenced c (s.slice c).trk.referenced := by
  simp only [State.setChItem, State.chItemEffect, State.travelChanged, State.modCfg, State.modTrk, State.modPrf,
    State.modSlice_modSlice, referencedChanged, State.slice_modSlice_same, Bool.bne_false]
  rfl

theorem changeOf_congr {s t : State} {c : Channel} (h : t.slice c = s.slice c) (k : ChangeKind) (r : Option Reason)
    (f : Option FaultKind) (x : Option Status) : t.changeOf c k r f x = s.changeOf c k r f x := by
  simp only [State.changeOf, h]

/-- R44: a REFERENCED notice may be read off any state that agrees on its channel. -/
theorem noticeReferenced_eq {s t : State} {c : Channel} (h : t.slice c = s.slice c) (changed : Bool) :
    s.noticeReferenced c changed =
      if changed then s.queueReport .change (t.changeOf c .referenced none none none) else s := by
  rw [changeOf_congr h]
  rfl

theorem setChItem_winLen (s : State) (c : Channel) (w : Int) :
    s.setChItem c .winLen w = s.modSlice c fun x => { x with
      cfg := { x.cfg with winLen := w.toNat, k := min x.cfg.k w.toNat }
      vdu := { x.vdu with window := x.vdu.window.take w.toNat } } := by
  simp only [State.setChItem, State.chItemEffect, State.modCfg, State.modVdu, State.modSlice_modSlice,
    State.slice_modSlice_same]
  exact modSlice_congr s rfl


/-- R114: under new bounds a baseline is clamped where its zone is not EMPTY. -/
theorem getElem_zones_underBounds (p : Profile) (lo hi : Nat) (z : Fin 64) :
    (p.underBounds lo hi).zones[z] =
      if p.zones[z].state = .empty then p.zones[z]
      else { p.zones[z] with baseline := max lo (min hi p.zones[z].baseline) } := by
  simp only [Profile.underBounds, Fin.getElem_fin, getElem_mapZones, clampNat]
  cases (p.zones[z.val]).state <;> rfl

theorem getElem_zones_underSpread (p : Profile) (sMax : Nat) (z : Fin 64) :
    (p.underSpread sMax).zones[z] = { p.zones[z] with spread := min p.zones[z].spread sMax } := by
  simp only [Profile.underSpread, Fin.getElem_fin, getElem_mapZones]

theorem setChItem_bounds (s : State) (c : Channel) {i : ChItem} (w : Int) (h : i = .bFloor ∨ i = .bCeil) :
    s.setChItem c i w = s.modSlice c fun x => { x with
      cfg := putChItem x.cfg i w
      prf := x.prf.underBounds (putChItem x.cfg i w).bFloor (putChItem x.cfg i w).bCeil } := by
  rcases h with rfl | rfl <;>
  · simp only [State.setChItem, State.chItemEffect, State.modCfg, State.modPrf, State.modSlice_modSlice,
      State.slice_modSlice_same]
    exact modSlice_congr s rfl

theorem setChItem_sMax (s : State) (c : Channel) (w : Int) :
    s.setChItem c .sMax w = s.modSlice c fun x => { x with
      cfg := { x.cfg with sMax := w.toNat, sInit := min x.cfg.sInit w.toNat }
      prf := x.prf.underSpread w.toNat } := by
  simp only [State.setChItem, State.chItemEffect, State.modCfg, State.modPrf, State.modSlice_modSlice,
    State.slice_modSlice_same]
  exact modSlice_congr s rfl

theorem setChItem_nHeld (s : State) (c : Channel) (w : Int) :
    s.setChItem c .nHeld w = s.modSlice c fun x => { x with
      cfg := { x.cfg with nHeld := w.toNat }
      ctl := { x.ctl with streak := min x.ctl.streak w.toNat } } := by
  simp only [State.setChItem, State.chItemEffect, State.modCfg, State.modCtl, State.modSlice_modSlice,
    State.slice_modSlice_same]
  exact modSlice_congr s rfl

theorem setChItem_creditMax (s : State) (c : Channel) (w : Int) :
    s.setChItem c .creditMax w = s.modSlice c fun x => { x with
      cfg := { x.cfg with creditMax := w.toNat }
      ctl := { x.ctl with credit := min x.ctl.credit w.toNat } } := by
  simp only [State.setChItem, State.chItemEffect, State.modCfg, State.modCtl, State.modSlice_modSlice,
    State.slice_modSlice_same]
  exact modSlice_congr s rfl

theorem setChItem_charges (s : State) (c : Channel) {i : ChItem} (w : Int) (h : i = .iStart ∨ i = .iRun ∨ i = .kind) :
    s.setChItem c i w = (s.modCfg c fun k => chItemFollow s.globals i (putChItem k i w)).scan := by
  rcases h with rfl | rfl | rfl <;> rfl

/-! ### What a per-channel item leaves alone -/

/-- Between `s` and `t` no global item, permission or stored image has changed, nor the settings and zones of any channel but `c`. -/
structure KeepsOtherSettings (c : Channel) (s t : State) : Prop where
  globals : t.globals = s.globals
  perms : t.perms = s.perms
  priv : t.priv = s.priv
  locked : t.store.locked = s.store.locked
  image : t.store.image = s.store.image
  others : ∀ d : Channel, d ≠ c → (t.slice d).cfg = (s.slice d).cfg ∧ (t.slice d).prf.zones = (s.slice d).prf.zones

theorem keepsOtherSettings_modSlice (s : State) (c : Channel) (f : Slice → Slice) :
    KeepsOtherSettings c s (s.modSlice c f) :=
  ⟨rfl, rfl, rfl, rfl, rfl, fun _ h => by rw [State.slice_modSlice_ne s f h]; exact ⟨rfl, rfl⟩⟩

theorem keepsOtherSettings_of_afterScan (c : Channel) {s t : State} (h : afterScan s t) : KeepsOtherSettings c s t := by
  obtain ⟨frame, store_eq, -, -, slices⟩ := h
  refine ⟨by rw [frame], by rw [frame], by rw [frame], by rw [store_eq], by rw [store_eq], fun d _ => ?_⟩
  obtain ⟨cfg_eq, -, zones_eq, -⟩ := slices d
  exact ⟨cfg_eq, zones_eq⟩

theorem KeepsOtherSettings.trans {c : Channel} {s t u : State} (h : KeepsOtherSettings c s t) (k : KeepsOtherSettings c t u) :
    KeepsOtherSettings c s u :=
  ⟨k.globals.trans h.globals, k.perms.trans h.perms, k.priv.trans h.priv, k.locked.trans h.locked, k.image.trans h.image,
    fun d hd => ⟨(k.others d hd).1.trans (h.others d hd).1, (k.others d hd).2.trans (h.others d hd).2⟩⟩

theorem keepsOtherSettings_noticeReferenced (c d : Channel) (s : State) (changed : Bool) :
    KeepsOtherSettings c s (s.noticeReferenced d changed) := by
  cases changed <;> exact ⟨rfl, rfl, rfl, rfl, rfl, fun _ _ => ⟨rfl, rfl⟩⟩

theorem keepsOtherSettings_chItemEffect (s : State) (c : Channel) (i : ChItem) :
    KeepsOtherSettings c s (s.chItemEffect c i) := by
  cases i
  case travel =>
    exact ((keepsOtherSettings_modSlice s c _).trans (keepsOtherSettings_modSlice _ c _)).trans
      (keepsOtherSettings_noticeReferenced c c _ _)
  case iStart | iRun | kind => exact keepsOtherSettings_of_afterScan c s.scan_spec
  case winLen | bFloor | bCeil | sMax | nHeld | creditMax => exact keepsOtherSettings_modSlice s c _
  all_goals exact ⟨rfl, rfl, rfl, rfl, rfl, fun _ _ => ⟨rfl, rfl⟩⟩

theorem keepsOtherSettings_setChItem (s : State) (c : Channel) (i : ChItem) (w : Int) :
    KeepsOtherSettings c s (s.setChItem c i w) :=
  (keepsOtherSettings_modSlice s c _).trans (keepsOtherSettings_chItemEffect _ c i)

theorem cfg_scan (s : State) (d : Channel) : (s.scan.slice d).cfg = (s.slice d).cfg := by
  obtain ⟨-, -, -, -, slices⟩ := s.scan_spec
  exact (slices d).1

theorem cfg_chItemEffect (s : State) (c : Channel) (i : ChItem) :
    ((s.chItemEffect c i).slice c).cfg = (s.slice c).cfg := by
  cases i
  case travel => simp [State.chItemEffect, State.travelChanged]
  case iStart | iRun | kind => exact cfg_scan s c
  case winLen | bFloor | bCeil | sMax | nHeld | creditMax => simp [State.chItemEffect]
  all_goals rfl

theorem cfg_setChItem (s : State) (c : Channel) (i : ChItem) (w : Int) :
    ((s.setChItem c i w).slice c).cfg = chItemFollow s.globals i (putChItem (s.slice c).cfg i w) := by
  rw [State.setChItem, cfg_chItemEffect, State.slice_modCfg_same]

/-- R154: the item of an accepted SET holds the value taken. -/
theorem chItemValue_setChItem (s : State) (c : Channel) (i : ChItem) (v : Int) :
    chItemValue ((s.setChItem c i (chItemTaken s.globals (s.slice c).cfg i v)).slice c).cfg i =
      chItemTaken s.globals (s.slice c).cfg i v := by
  rw [cfg_setChItem, chItemValue_chItemFollow_self, chItemValue_putChItem_taken]

section
variable {s t : State} (tag : Byte) (k : RequestKind) (st : Status) (content : List (List Byte))

/-- An answer after a scan goes out as it would have before. -/
theorem answer_link_of_afterScan (h : afterScan s t) :
    (t.answer tag k st content).link = (s.answer tag k st content).link := by
  obtain ⟨frame, -⟩ := h
  rw [frame]
  rfl

theorem answer_frame_of_afterScan (h : afterScan s t) :
    t.answer tag k st content =
      { s with ch := t.ch, queue := t.queue, store := t.store, link := (t.answer tag k st content).link } := by
  obtain ⟨frame, -⟩ := h
  rw [frame]
  rfl

end

/-- R55: a scan under a sag or on an empty start queue starts no channel. -/
theorem scan_still {s : State} (h : s.supply.sag = true ∨ s.queue = []) : s.scan = s :=
  h.elim s.scan_sag s.scan_empty

/-! ### SET (R154) -/

theorem whenRunning_takeFrame_privileged {s : State} {b : Byte} {k : RequestKind} {p : List Byte} (hrun : s.power = .running)
    (hkind : requestKindOfByte b = some k) (hlength : p.length = payloadLength k) (hsrc : s.privileged (byteAt p 1)) :
    ∃ q, (s.whenRunning fun t => t.takeFrame b p) = s.counted.carryOut k p q := by
  obtain ⟨q, -, carried⟩ := takeRequest_privileged s.counted k p hsrc
  exact ⟨q, (whenRunning_takeFrame hrun hkind hlength).trans carried⟩

/-- The answer to a SET that has taken the value `w` for the value `v` sent. -/
def answerTaken (s : State) (tag : Byte) (v w : Int) : State :=
  s.answer tag .set (if w = v then .done else .clamped) (if w = v then [] else [i32 w])

theorem answerSet_taken (s : State) (tag : Byte) (v w : Int) (take : Int → State) :
    s.answerSet tag (.taken (decide (w ≠ v)) w) take = answerTaken (take w) tag v w := by
  by_cases h : w = v
  · simp [State.answerSet, answerTaken, State.answerPlain, h]
  · simp [State.answerSet, answerTaken, State.answerClamped, h]

theorem answerSet_refused (s : State) (tag : Byte) (st : Status) (take : Int → State) :
    s.answerSet tag (.refused st) take = s.answer tag .set st [] := rfl

theorem itemValueNames_eq_true {i : ChItem} {v : Int} (h : i = .kind → 0 ≤ v ∧ v ≤ 3) : itemValueNames i v = true := by
  by_cases hkind : i = .kind
  · obtain ⟨m, rfl⟩ := kind_of_code (h hkind).1 (h hkind).2
    rw [hkind, itemValueNames, kindOfCode_code]
    rfl
  · cases i
    case kind => exact absurd rfl hkind
    all_goals rfl

theorem itemValueNames_kind_eq_false {v : Int} (h : v < 0 ∨ 3 < v) : itemValueNames .kind v = false := by
  rw [itemValueNames, kindOfCode_eq_none h]
  rfl

section
variable {s : State} {c : Channel} {i : ChItem} {v : Int}

theorem judgeChItem_locked (hnames : itemValueNames i v = true) (h : s.store.locked = true) :
    s.judgeChItem c i v = .refused .locked := by
  simp [State.judgeChItem, hnames, h]

theorem judgeChItem_busy (hnames : itemValueNames i v = true) (hunlocked : s.store.locked = false)
    (hbusy : s.chItemBusy c i = true) : s.judgeChItem c i v = .refused .busy := by
  simp [State.judgeChItem, hnames, hunlocked, hbusy]

theorem chItemBusy_travel (hidle : (s.slice c).ctl.motion ≠ .idle) (hfaulted : (s.slice c).ctl.motion ≠ .faulted) :
    s.chItemBusy c .travel = true := by
  simp [State.chItemBusy, hidle, hfaulted]

theorem chItemBusy_eq_false (h : i = .travel → (s.slice c).ctl.motion = .idle ∨ (s.slice c).ctl.motion = .faulted) :
    s.chItemBusy c i = false := by
  cases i
  case travel => rcases h rfl with h | h <;> simp [State.chItemBusy, h]
  all_goals rfl

theorem judgeChItem_taken (hnames : itemValueNames i v = true) (hunlocked : s.store.locked = false)
    (hfree : s.chItemBusy c i = false) :
    s.judgeChItem c i v =
      .taken (decide (chItemTaken s.globals (s.slice c).cfg i v ≠ v)) (chItemTaken s.globals (s.slice c).cfg i v) := by
  simp [State.judgeChItem, hnames, hunlocked, hfree]

end

section
variable {s : State} {tag src item chan b0 b1 b2 b3 : Byte}

theorem exec_set_privileged (hrun : s.power = .running) (hsrc : s.privileged src) :
    exec (.set [tag, src, item, chan, b0, b1, b2, b3]) s =
      .next (s.counted.carrySet [tag, src, item, chan, b0, b1, b2, b3]) := by
  obtain ⟨_, carried⟩ := whenRunning_takeFrame_privileged (p := [tag, src, item, chan, b0, b1, b2, b3]) hrun
    (requestKindOfByte_code .set) rfl hsrc
  exact congrArg _ carried

theorem carrySet_unnamed_item (h : itemOfCode item.toNat = none) :
    s.carrySet [tag, src, item, chan, b0, b1, b2, b3] = s.answer tag .set .malformed [] := by
  simp [State.carrySet, byteAt, h, State.answerPlain]

theorem carrySet_unnamed_channel {i : ChItem} (h : itemOfCode item.toNat = some (.perChannel i)) (hchan : 8 ≤ chan.toNat) :
    s.carrySet [tag, src, item, chan, b0, b1, b2, b3] = s.answer tag .set .malformed [] := by
  simp [State.carrySet, byteAt, h, channelOfByte_eq_none hchan, State.answerPlain]

theorem carrySet_perChannel {i : ChItem} {c : Channel} (h : itemOfCode item.toNat = some (.perChannel i))
    (hchan : channelOfByte chan = some c) :
    s.carrySet [tag, src, item, chan, b0, b1, b2, b3] =
      s.answerSet tag (s.judgeChItem c i (readI32 b0 b1 b2 b3)) (s.setChItem c i) := by
  simp [State.carrySet, byteAt, h, hchan]

theorem carrySet_global {i : GlItem} (h : itemOfCode item.toNat = some (.global i)) :
    s.carrySet [tag, src, item, chan, b0, b1, b2, b3] =
      s.answerSet tag (s.judgeGlItem i (readI32 b0 b1 b2 b3)) (s.setGlItem i) := by
  simp [State.carrySet, byteAt, h]

end


/-! ### The tests of a global item -/

theorem any_toList {α : Type} (o : Octet α) (f : α → Bool) : o.toList.any f = true ↔ ∃ i, f (o.get i) = true := by
  simp [Octet.toList, Octet.get, Fin.exists_fin_succ]

theorem anyGrant_iff (s : State) : s.anyGrant = true ↔ ∃ c : Channel, (s.slice c).arb.held = true := any_toList s.ch _

theorem anyGrant_eq_false_iff (s : State) : s.anyGrant = false ↔ ∀ c : Channel, (s.slice c).arb.held = false := by
  rw [← Bool.not_eq_true, anyGrant_iff]
  simp

section
variable {s : State} {i : GlItem} {v : Int}

theorem judgeGlItem_locked (h : s.store.locked = true) : s.judgeGlItem i v = .refused .locked := by
  simp [State.judgeGlItem, h]

theorem judgeGlItem_budget_busy {c : Channel} (hunlocked : s.store.locked = false) (h : (s.slice c).arb.held = true) :
    s.judgeGlItem .budget v = .refused .busy := by
  simp [State.judgeGlItem, hunlocked, State.glItemBusy, (anyGrant_iff s).2 ⟨c, h⟩]

theorem glItemBusy_eq_false (h : i = .budget → ∀ c : Channel, (s.slice c).arb.held = false) : s.glItemBusy i = false := by
  cases i
  case budget => exact (anyGrant_eq_false_iff s).2 (h rfl)
  all_goals rfl

theorem judgeGlItem_taken (hunlocked : s.store.locked = false) (hfree : s.glItemBusy i = false) :
    s.judgeGlItem i v = .taken (decide (glItemTaken s.globals i v ≠ v)) (glItemTaken s.globals i v) := by
  simp [State.judgeGlItem, hunlocked, hfree]

end

/-! ### The statement on refusals -/

/-- Settles O26: each clause is the first test of R154 that the SET fails, in the order of `carrySet` and the two judges. -/
theorem setRefusedAndLock : Obligations.SetRefusedAndLock := by
  intro s tag src item chan b0 b1 b2 b3 hrun hsrc v request refused
  have request_eq : request = .next (s.counted.carrySet [tag, src, item, chan, b0, b1, b2, b3]) :=
    exec_set_privileged hrun hsrc
  rw [request_eq]
  refine ⟨?item, ?channel, ?kind, ?lockedChannel, ?lockedGlobal, ?travel, ?budget, ?lock⟩
  case item =>
    intro hitem
    rw [carrySet_unnamed_item hitem]
  case channel =>
    intro i hitem hchan
    rw [carrySet_unnamed_channel hitem hchan]
  case kind =>
    intro hitem hv
    by_cases hchan : chan.toNat < 8
    · rw [carrySet_perChannel hitem (dif_pos hchan), State.judgeChItem, if_pos (itemValueNames_kind_eq_false hv),
        answerSet_refused]
    · rw [carrySet_unnamed_channel hitem (Nat.not_lt.1 hchan)]
  case lockedChannel =>
    intro i hitem hchan hkind hlocked
    rw [carrySet_perChannel hitem (dif_pos hchan), judgeChItem_locked (s := s.counted) (itemValueNames_eq_true hkind) hlocked,
      answerSet_refused]
  case lockedGlobal =>
    intro i hitem hlocked
    rw [carrySet_global hitem, judgeGlItem_locked (s := s.counted) hlocked, answerSet_refused]
  case travel =>
    rintro c hitem rfl hunlocked hidle hfaulted
    rw [carrySet_perChannel hitem (channelOfByte_channelByte c),
      judgeChItem_busy (s := s.counted) rfl hunlocked (chItemBusy_travel hidle hfaulted), answerSet_refused]
  case budget =>
    intro c hitem hunlocked hheld
    rw [carrySet_global hitem, judgeGlItem_budget_busy (s := s.counted) hunlocked hheld, answerSet_refused]
  case lock =>
    obtain ⟨_, carried⟩ := whenRunning_takeFrame_privileged (p := [tag, src]) hrun (requestKindOfByte_code .lock) rfl hsrc
    exact congrArg _ carried

/-! ### The statement on per-channel items -/

theorem exec_set_channelItem {s : State} {tag src item b0 b1 b2 b3 : Byte} {c : Channel} {i : ChItem} {v w : Int}
    (hrun : s.power = .running) (hsrc : s.privileged src) (hitem : itemOfCode item.toNat = some (.perChannel i))
    (hv : readI32 b0 b1 b2 b3 = v) (hw : chItemTaken s.globals (s.slice c).cfg i v = w) (hunlocked : s.store.locked = false)
    (hkind : i = .kind → 0 ≤ v ∧ v ≤ 3)
    (htravel : i = .travel → (s.slice c).ctl.motion = .idle ∨ (s.slice c).ctl.motion = .faulted) :
    exec (.set [tag, src, item, channelByte c, b0, b1, b2, b3]) s =
      .next (answerTaken (s.counted.setChItem c i w) tag v w) := by
  rw [exec_set_privileged hrun hsrc, carrySet_perChannel hitem (channelOfByte_channelByte c), hv,
    judgeChItem_taken (s := s.counted) (itemValueNames_eq_true hkind) hunlocked (chItemBusy_eq_false htravel),
    answerSet_taken, ← hw]
  rfl

/-- Settles O24: an accepted SET answers `setChItem` of the value taken, which comes to one update of the channel's slice (and a notice for
TRAVEL, a scan for the charges), item by item; each clause reads that update off. -/
theorem setTakesChannelItem : Obligations.SetTakesChannelItem := by
  refine ⟨rfl, itemOfCode_perChannel_iff, fun k => rfl, rfl, rfl, ?_⟩
  intro range
  have range_eq : ∀ g k i, chItemRange g k i = range g k i := by
    intro g k i
    cases i <;> rfl
  refine ⟨range_eq, ?_⟩
  intro s c tag src item b0 b1 b2 b3 i v old lo hi w status content hrun hsrc hitem hunlocked hkind htravel answered
  have hw : chItemTaken s.globals old.cfg i v = w := by rw [chItemTaken_eq, range_eq]
  have kept := keepsOtherSettings_setChItem s.counted c i w
  have cfg_eq : ((s.counted.setChItem c i w).slice c).cfg = chItemFollow s.globals i (putChItem old.cfg i w) :=
    cfg_setChItem s.counted c i w
  refine ⟨answered (s.counted.setChItem c i w), exec_set_channelItem hrun hsrc hitem rfl hw hunlocked hkind htravel, ?value,
    kept.globals, kept.perms, kept.priv, kept.locked.trans hunlocked, kept.image, kept.others, ?plain, ?onTravel, ?onWinLen,
    ?onBFloor, ?onBCeil, ?onBounds, ?onSMax, ?onNHeld, ?onCreditMax, ?onController, ?onIStart, ?onIRun, ?onKind, ?onCharges⟩
  case value =>
    rw [← hw]
    exact chItemValue_setChItem s.counted c i v
  case plain =>
    intro hplain
    rw [setChItem_plain s.counted c w hplain]
    refine ⟨fun j hj => ?_, congrArg answered (modSlice_congr _ ?_)⟩
    · simp only [answered, State.answer_slice, State.slice_modCfg_same]
      exact chItemValue_putChItem_of_ne _ w hj
    · simp [answered]
  case onTravel =>
    intro hi
    rw [hi, setChItem_travel]
    simp only [answered, State.answer_slice, State.noticeReferenced_slice, State.slice_modSlice_same]
    refine ⟨rfl, rfl, rfl, congrArg answered ?_⟩
    have update_eq : (s.counted.modSlice c fun x =>
        let y := underTravel w.toNat (s.counted.slice c)
        { x with cfg := y.cfg, trk := y.trk, prf := y.prf }) = s.counted.modSlice c (underTravel w.toNat) :=
      modSlice_congr _ rfl
    rw [update_eq]
    exact noticeReferenced_eq (by simp) _
  case onWinLen =>
    intro hi
    rw [hi, setChItem_winLen]
    simp only [answered, State.answer_slice, State.slice_modSlice_same]
    exact ⟨rfl, rfl, congrArg answered (modSlice_congr _ rfl)⟩
  case onBFloor =>
    intro hi
    exact cfg_eq.trans (by rw [hi]; rfl)
  case onBCeil =>
    intro hi
    exact cfg_eq.trans (by rw [hi]; rfl)
  case onBounds =>
    intro hi
    rw [setChItem_bounds s.counted c w hi]
    simp only [answered, State.answer_slice, State.slice_modSlice_same]
    exact ⟨congrArg answered (modSlice_congr _ rfl), getElem_zones_underBounds _ _ _⟩
  case onSMax =>
    intro hi
    rw [hi, setChItem_sMax]
    simp only [answered, State.answer_slice, State.slice_modSlice_same]
    exact ⟨rfl, congrArg answered (modSlice_congr _ rfl), getElem_zones_underSpread _ _⟩
  case onNHeld =>
    intro hi
    rw [hi, setChItem_nHeld]
    simp only [answered, State.answer_slice, State.slice_modSlice_same]
    exact ⟨rfl, rfl⟩
  case onCreditMax =>
    intro hi
    rw [hi, setChItem_creditMax]
    simp only [answered, State.answer_slice, State.slice_modSlice_same]
    exact ⟨rfl, rfl⟩
  case onController =>
    rintro (hi | hi)
    · rw [hi, setChItem_nHeld]
      simp only [answered, State.answer_slice, State.slice_modSlice_same]
      exact congrArg answered (modSlice_congr _ rfl)
    · rw [hi, setChItem_creditMax]
      simp only [answered, State.answer_slice, State.slice_modSlice_same]
      exact congrArg answered (modSlice_congr _ rfl)
  case onIStart =>
    intro hi
    exact cfg_eq.trans (by rw [hi]; rfl)
  case onIRun =>
    intro hi
    exact cfg_eq.trans (by rw [hi]; rfl)
  case onKind =>
    intro hi loads
    have cfg_kind : ∀ k : Kind, v = Kind.code k → loads k (kindCharges k).1 (kindCharges k).2 := by
      intro k hk
      refine cfg_eq.trans ?_
      have w_eq : w = Kind.code k := by rw [← hw, hi, hk, chItemTaken_kind_code]
      rw [hi, w_eq]
      simp [putChItem, chItemFollow, kindOfCode_code, old]
    exact ⟨cfg_kind .window, cfg_kind .vent, cfg_kind .roofPanel, cfg_kind .roofShade⟩
  case onCharges =>
    intro hi
    rw [setChItem_charges s.counted c w hi]
    have scanned := State.scan_spec (s.counted.modCfg c fun k => chItemFollow s.counted.globals i (putChItem k i w))
    refine ⟨(answer_frame_of_afterScan tag .set status content scanned).trans rfl,
      (answer_link_of_afterScan tag .set status content scanned).trans rfl, fun hstill => ?_⟩
    rw [scan_still (s := s.counted.modCfg c _) hstill]
    exact congrArg answered (modSlice_congr _ (by simp [answered]))

/-! ### The global items (R57, R62, R155) -/

theorem weightOf_code (x : Weight) : weightOf (Weight.code x) = x := by cases x <;> rfl

theorem code_weightOf (v : Int) :
    (Weight.code (weightOf v) : Int) = if v ≤ 0 then 0 else if v ≤ 7 then 4 else if v ≤ 15 then 8 else 16 := by
  unfold weightOf
  by_cases h0 : v ≤ 0
  · simp only [if_pos h0, Weight.code, Int.cast_ofNat_Int]
  · by_cases h7 : v ≤ 7
    · simp only [if_neg h0, if_pos h7, Weight.code, Int.cast_ofNat_Int]
    · by_cases h15 : v ≤ 15
      · simp only [if_neg h0, if_neg h7, if_pos h15, Weight.code, Int.cast_ofNat_Int]
      · simp only [if_neg h0, if_neg h7, if_neg h15, Weight.code, Int.cast_ofNat_Int]

theorem glItemRange_fst_nonneg (g : GlobalSettings) (i : GlItem) : 0 ≤ (glItemRange g i).1 := by
  cases i <;> simp [glItemRange]

theorem toNat_glItemTaken {g : GlobalSettings} {i : GlItem} (v : Int) (h : i ∉ [GlItem.wrr, .urgentKinds, .lockAtStart]) :
    ((glItemTaken g i v).toNat : Int) = glItemTaken g i v := by
  refine Int.toNat_of_nonneg ?_
  have := glItemRange_fst_nonneg g i
  cases i
  case wrr | urgentKinds | lockAtStart => exact absurd (by decide) h
  all_goals
    simp only [glItemTaken, clampInt]
    omega

/-- Off the diagonal of the two items the entry read is not the one written. -/
theorem glItemValue_putGlItem_of_ne (g : GlobalSettings) {i j : GlItem} (w : Int) (h : j ≠ i) :
    glItemValue (putGlItem g i w) j = glItemValue g j := by
  cases i <;> cases j <;> first | rfl | exact absurd rfl h

theorem glItemValue_putGlItem_taken (g : GlobalSettings) (i : GlItem) (v : Int) :
    glItemValue (putGlItem g i (glItemTaken g i v)) i = glItemTaken g i v := by
  cases i
  case wrr => simp [putGlItem, glItemValue, glItemTaken, weightOf_code]
  case urgentKinds =>
    simp only [putGlItem, glItemValue, glItemTaken, BitVec.toNat_ofInt]
    split <;> omega
  case lockAtStart => by_cases h : v = 0 <;> simp [putGlItem, glItemValue, glItemTaken, h]
  all_goals exact toNat_glItemTaken v (by decide)

/-- The global items under a taken value: U_SAG lowers U_CUT (R62). -/
def glItemsTaken (g : GlobalSettings) (i : GlItem) (w : Int) : GlobalSettings :=
  if i = .uSag then underSag (putGlItem g i w) else putGlItem g i w

theorem glItemValue_underSag_of_ne (g : GlobalSettings) {j : GlItem} (h : j ≠ .uCut) :
    glItemValue (underSag g) j = glItemValue g j := by
  cases j
  case uCut => exact absurd rfl h
  all_goals rfl

theorem glItemValue_glItemsTaken_self (g : GlobalSettings) (i : GlItem) (v : Int) :
    glItemValue (glItemsTaken g i (glItemTaken g i v)) i = glItemTaken g i v := by
  unfold glItemsTaken
  split
  case isTrue h => rw [glItemValue_underSag_of_ne _ (by simp [h]), glItemValue_putGlItem_taken]
  case isFalse => exact glItemValue_putGlItem_taken g i v

theorem glItemValue_glItemsTaken_of_ne (g : GlobalSettings) {i j : GlItem} (w : Int) (h : j ≠ i)
    (hcut : ¬(i = .uSag ∧ j = .uCut)) : glItemValue (glItemsTaken g i w) j = glItemValue g j := by
  unfold glItemsTaken
  split
  case isTrue hi =>
    rw [glItemValue_underSag_of_ne _ fun hj => hcut ⟨hi, hj⟩, glItemValue_putGlItem_of_ne g w h]
  case isFalse => exact glItemValue_putGlItem_of_ne g w h

theorem uCut_glItemsTaken_uSag (g : GlobalSettings) (w : Int) :
    (glItemsTaken g .uSag w).uCut = if w ≤ (g.uCut : Int) then max 5600 (w.toNat - 1) else g.uCut := by
  simp [glItemsTaken, underSag, putGlItem, Int.toNat_le]

theorem setGlItem_of_ne_budget (s : State) {i : GlItem} (w : Int) (h : i ≠ .budget) :
    s.setGlItem i w = { s with globals := glItemsTaken s.globals i w } := by
  cases i
  case budget => exact absurd rfl h
  all_goals rfl

/-- The part under a BUDGET just taken, before its scan (R57). -/
def withBudget (s : State) (budget : Nat) : State :=
  { s with
    globals := { s.globals with budget := budget }
    ch := s.ch.map fun x => { x with cfg := underBudget budget x.cfg } }

theorem setGlItem_budget (s : State) (w : Int) : s.setGlItem .budget w = (withBudget s w.toNat).scan := rfl

theorem cfg_withBudget (s : State) (budget : Nat) (c : Channel) :
    ((withBudget s budget).slice c).cfg = underBudget budget (s.slice c).cfg :=
  congrArg Slice.cfg (Octet.get_map _ s.ch c)

theorem globals_scan (s : State) : s.scan.globals = s.globals := by
  obtain ⟨frame, -⟩ := s.scan_spec
  rw [frame]

/-! ### The statement on global items -/

theorem exec_set_globalItem {s : State} {tag src item chan b0 b1 b2 b3 : Byte} {i : GlItem} {v w : Int}
    (hrun : s.power = .running) (hsrc : s.privileged src) (hitem : itemOfCode item.toNat = some (.global i))
    (hv : readI32 b0 b1 b2 b3 = v) (hw : glItemTaken s.globals i v = w) (hunlocked : s.store.locked = false)
    (hbudget : i = .budget → ∀ c : Channel, (s.slice c).arb.held = false) :
    exec (.set [tag, src, item, chan, b0, b1, b2, b3]) s =
      .next (answerTaken (s.counted.setGlItem i w) tag v w) := by
  rw [exec_set_privileged hrun hsrc, carrySet_global hitem, hv,
    judgeGlItem_taken (s := s.counted) hunlocked (glItemBusy_eq_false hbudget), answerSet_taken, ← hw]
  rfl

/-- Settles O25: an accepted SET answers the state under `glItemsTaken` of the value taken, but that a BUDGET lowers the charges and scans,
which leaves every block but slices, start queue and store alone (`State.scan_spec`). -/
theorem setTakesGlobalItem : Obligations.SetTakesGlobalItem := by
  refine ⟨rfl, itemOfCode_global_iff, fun g => rfl, rfl, ?_⟩
  intro range
  have range_eq : ∀ g i, glItemRange g i = range g i := by
    intro g i
    cases i <;> rfl
  refine ⟨range_eq, ?_⟩
  intro s tag src item chan b0 b1 b2 b3 i v w status content hrun hsrc hitem hunlocked hbudget
  have hw : glItemTaken s.globals i v = w := by
    cases i
    case wrr => exact code_weightOf v
    all_goals rfl
  have exec_eq := exec_set_globalItem (tag := tag) (chan := chan) hrun hsrc hitem rfl hw hunlocked hbudget
  by_cases hi : i = .budget
  case pos =>
    have scanned := State.scan_spec (withBudget s.counted w.toNat)
    have globals_eq := globals_scan (withBudget s.counted w.toNat)
    rw [hi, setGlItem_budget] at exec_eq
    refine ⟨_, exec_eq, ?value, ?others, fun h => absurd (hi.symm.trans h) (by decide), fun h => absurd hi h, ?onBudget⟩
    case value =>
      rw [hi, answerTaken, State.answer_globals, globals_eq, ← hw, hi]
      exact toNat_glItemTaken v (by decide)
    case others =>
      intro j hj _
      rw [answerTaken, State.answer_globals, globals_eq]
      rw [hi] at hj
      exact glItemValue_putGlItem_of_ne s.globals w hj
    case onBudget =>
      intro _ lowered
      refine ⟨globals_eq, fun c => (cfg_scan _ c).trans (cfg_withBudget s.counted _ c), ?frame,
        (answer_link_of_afterScan tag .set status content scanned).trans rfl, fun hstill => ?still⟩
      case frame =>
        rw [answerTaken, State.answer_globals, globals_eq]
        exact (answer_frame_of_afterScan tag .set status content scanned).trans rfl
      case still =>
        rw [scan_still (s := withBudget s.counted _) hstill]
        rfl
  case neg =>
    rw [setGlItem_of_ne_budget _ _ hi] at exec_eq
    refine ⟨_, exec_eq, ?value, fun j hj hcut => glItemValue_glItemsTaken_of_ne s.globals w hj hcut, ?sag, fun _ => rfl,
      fun h => absurd h hi⟩
    case value =>
      rw [← hw]
      exact glItemValue_glItemsTaken_self s.globals i v
    case sag =>
      intro hsag
      rw [hsag]
      exact uCut_glItemsTaken_uSag s.globals w

end Sys2Proof.Machine.SettingRules
end

section
/-! SUPPORT. The settings store (10_stored_settings_and_start_up.md): the acceptance of STORE, PARK and RESTART (R158 to R160, R162), the ends
of an operation's phases and the check of a written section (R157, R158), and what a load makes of a stored content (R161). -/

namespace Sys2Proof.Machine.ImageRules

open Sys2Proof.Machine.ProfileRules Sys2Proof.Machine.LogRules Sys2Proof.Machine.SourceRules Sys2Proof.Machine.SettingRules

/-! ### STORE, PARK and RESTART (R158 to R160, R162) -/

section
variable {s : State} {tag src : Byte}

theorem exec_store_privileged (hrun : s.power = .running) (hsrc : s.privileged src) :
    exec (.store [tag, src]) s = .next (s.counted.carryStore [tag, src]) := by
  obtain ⟨_, carried⟩ := whenRunning_takeFrame_privileged (p := [tag, src]) hrun (requestKindOfByte_code .store) rfl hsrc
  exact congrArg _ carried

theorem exec_park_privileged (hrun : s.power = .running) (hsrc : s.privileged src) :
    exec (.park [tag, src]) s = .next (s.counted.carryPark [tag, src]) := by
  obtain ⟨_, carried⟩ := whenRunning_takeFrame_privileged (p := [tag, src]) hrun (requestKindOfByte_code .park) rfl hsrc
  exact congrArg _ carried

theorem exec_restart_privileged (hrun : s.power = .running) (hsrc : s.privileged src) :
    exec (.restart [tag, src]) s = .next (s.counted.carryRestart [tag, src]) := by
  obtain ⟨_, carried⟩ := whenRunning_takeFrame_privileged (p := [tag, src]) hrun (requestKindOfByte_code .restart) rfl hsrc
  exact congrArg _ carried

/-- The part as an accepted STORE leaves it, before its answer (R159). -/
def storing (s : State) : State := s.modStore fun t => t.beginOp (.store s.settingsNow)

theorem carryStore_accepted (h : s.store.op = none) :
    s.carryStore [tag, src] = (storing s).answer tag .store .done [] := by
  rw [State.carryStore, h]
  rfl

theorem carryStore_busy (h : s.store.op ≠ none) : s.carryStore [tag, src] = s.answer tag .store .busy [] := by
  obtain ⟨o, ho⟩ := Option.ne_none_iff_exists'.1 h
  rw [State.carryStore, ho]
  rfl

theorem allParked_iff :
    s.allParked = true ↔ ∀ c : Channel, (s.slice c).ctl.motion = .idle ∧ (s.slice c).trk.referenced = true :=
  (all_toList s.ch _).trans (forall_congr' fun c => by simp [State.slice])

/-- The part as an accepted PARK leaves it, before its answer (R160). -/
def parking (s : State) : State :=
  s.modStore fun t => { t with markStanding := true, clearDue := false }.beginOp (.park s.parkNow)

theorem carryPark_accepted (hop : s.store.op = none) (h : s.allParked = true) :
    s.carryPark [tag, src] = (parking s).answer tag .park .done [] := by
  rw [State.carryPark, hop]
  exact if_pos h

theorem carryPark_busy (h : s.store.op ≠ none ∨ s.allParked = false) :
    s.carryPark [tag, src] = s.answer tag .park .busy [] := by
  unfold State.carryPark
  split
  case h_1 => rfl
  case h_2 hop =>
    rw [h.resolve_left fun hne => hne hop]
    rfl

theorem carryRestart_accepted (hqueue : s.queue = []) (hgrant : s.anyGrant = false) :
    s.carryRestart [tag, src] = s.warmRestarted.answer tag .restart .done [] :=
  if_neg (by simp [hqueue, hgrant])

theorem carryRestart_busy (h : s.queue ≠ [] ∨ s.anyGrant = true) :
    s.carryRestart [tag, src] = s.answer tag .restart .busy [] :=
  if_pos h.symm

end

/-- A warm restart keeps what a STORE would write (R162). -/
theorem settingsNow_warmRestarted (s : State) : s.warmRestarted.settingsNow = s.settingsNow := by
  simp only [State.settingsNow, State.warmRestarted, Octet.map, Octet.get_ofFn, Slice.warm]

theorem get_parkNow_positions (s : State) (c : Channel) :
    s.parkNow.positions.get c = BitVec.ofInt 16 (s.slice c).trk.position :=
  Octet.get_map _ s.ch c

/-- Settles O30: each request comes to one of its two branches, and what an accepted one begins is read off it. -/
theorem storeParkRestartAcceptance : Obligations.StoreParkRestartAcceptance := by
  intro s tag src hrun hsrc parked
  rw [exec_store_privileged hrun hsrc, exec_park_privileged hrun hsrc, exec_restart_privileged hrun hsrc]
  refine ⟨?stored, ?inFlight, ?parks, ?notParked, ?notQuiet, ?restarts⟩
  case stored =>
    intro hop
    exact ⟨_, congrArg _ (carryStore_accepted hop), rfl, rfl, rfl, rfl, rfl, rfl, rfl⟩
  case inFlight =>
    intro hop
    exact ⟨congrArg _ (carryStore_busy hop), congrArg _ (carryPark_busy (.inl hop))⟩
  case parks =>
    intro hop hparked
    exact ⟨_, s.parkNow, congrArg _ (carryPark_accepted hop (allParked_iff.2 hparked)), rfl, rfl, get_parkNow_positions s,
      rfl, rfl, rfl, rfl, rfl, rfl⟩
  case notParked =>
    intro hnot
    exact congrArg _ (carryPark_busy (.inr (Bool.eq_false_iff.2 fun h => hnot (allParked_iff.1 h))))
  case notQuiet =>
    intro h
    exact congrArg _ (carryRestart_busy (h.imp_right (anyGrant_iff s).2))
  case restarts =>
    intro hqueue hgrant
    exact ⟨_, congrArg _ (carryRestart_accepted hqueue ((anyGrant_eq_false_iff s).2 hgrant)), rfl,
      settingsNow_warmRestarted s.counted, rfl, rfl, rfl⟩

/-! ### The check of a section tells one wrong byte (R157) -/

/-- 0x1021 is odd: a shift that combines it in leaves the lowest bit set. -/
theorem crc16Shift_eq_zero {x : BitVec 16} (h : crc16Shift x = 0) : x = 0 := by
  unfold crc16Shift at h
  split at h
  case isTrue =>
    have lowest := congrArg (·.getLsbD 0) h
    simp at lowest
  case isFalse hmsb =>
    have low : x.toNat < 2 ^ 15 := by simpa [BitVec.msb_eq_decide] using hmsb
    have doubled := congrArg BitVec.toNat h
    simp only [BitVec.toNat_shiftLeft, Nat.shiftLeft_eq, BitVec.ofNat_eq_ofNat, BitVec.toNat_ofNat] at doubled
    exact BitVec.eq_of_toNat_eq (by simp; omega)

theorem crc16Step_eq_zero {x : BitVec 16} {b : Byte} (h : crc16Step x b = 0) : x ^^^ (b.setWidth 16 <<< 8) = 0 := by
  unfold crc16Step at h
  iterate 8 replace h := crc16Shift_eq_zero h
  exact h

theorem crc16Step_zero_check {b : Byte} (h : crc16Step 0 b = 0) : b = 0 := by
  have shifted : b.setWidth 16 <<< 8 = 0 := by simpa using crc16Step_eq_zero h
  bv_omega

theorem crc16Step_zero_byte {x : BitVec 16} (h : crc16Step x 0 = 0) : x = 0 := by
  simpa using crc16Step_eq_zero h

/-- The number of bytes that are not 0. -/
def nonzeros (ds : List Byte) : Nat := ds.countP fun b => decide (b ≠ 0)

theorem nonzeros_cons_zero (ds : List Byte) : nonzeros (0 :: ds) = nonzeros ds := List.countP_cons_of_neg (by decide)

theorem nonzeros_cons_of_ne {d : Byte} (h : d ≠ 0) (ds : List Byte) : nonzeros (d :: ds) = nonzeros ds + 1 :=
  List.countP_cons_of_pos (decide_eq_true h)

theorem nonzeros_eq_zero_iff {ds : List Byte} : nonzeros ds = 0 ↔ ds = List.replicate ds.length 0 := by
  simp [nonzeros, List.countP_eq_zero, List.eq_replicate_iff]

theorem crc16From_zeros (n : Nat) : crc16From 0 (List.replicate n 0) = 0 := by
  induction n with
  | zero => rfl
  | succ n ih => exact ih

theorem crc16From_zeros_eq_zero {x : BitVec 16} (n : Nat) (h : crc16From x (List.replicate n 0) = 0) : x = 0 := by
  induction n generalizing x with
  | zero => exact h
  | succ n ih => exact crc16Step_zero_byte (ih h)

theorem crc16From_one_ne_zero {ds : List Byte} (h : nonzeros ds = 1) : crc16From 0 ds ≠ 0 := by
  induction ds with
  | nil => exact absurd h (by decide)
  | cons d ds ih =>
    by_cases hd : d = 0
    · subst hd
      exact ih ((nonzeros_cons_zero ds).symm.trans h)
    · have rest : ds = List.replicate ds.length 0 := nonzeros_eq_zero_iff.1 (Nat.succ.inj ((nonzeros_cons_of_ne hd ds).symm.trans h))
      intro hzero
      rw [rest] at hzero
      exact hd (crc16Step_zero_check (crc16From_zeros_eq_zero _ hzero))

theorem eq_zero_of_checkBytes {x : BitVec 16} (h : checkBytes x = [0, 0]) : x = 0 := by
  simp only [checkBytes, List.cons.injEq, and_true] at h
  obtain ⟨high, low⟩ := h
  bv_omega

theorem nonzeros_sectionDiff (size : Nat) (diff : List Byte) : nonzeros (sectionDiff size diff) = wrongBytes size diff := by
  simp [sectionDiff, wrongBytes, nonzeros, List.take_append, List.countP_eq_length_filter]

theorem keepsCheck_of_none {size : Nat} {diff : List Byte} (hsize : 2 ≤ size) (h : wrongBytes size diff = 0) :
    keepsCheck size diff = true := by
  have zeros : sectionDiff size diff = List.replicate size 0 := by
    simpa using nonzeros_eq_zero_iff.1 ((nonzeros_sectionDiff size diff).trans h)
  have two : size - (size - 2) = 2 := by omega
  simp only [keepsCheck, zeros, List.take_replicate, List.drop_replicate, crc16From_zeros, two]
  rfl

/-- One wrong byte stands either in the content, whose CRC it changes, or in the two check bytes themselves. -/
theorem not_keepsCheck_of_one {size : Nat} {diff : List Byte} (hsize : 2 ≤ size) (h : wrongBytes size diff = 1) :
    keepsCheck size diff = false := by
  have total : nonzeros ((sectionDiff size diff).take (size - 2)) + nonzeros ((sectionDiff size diff).drop (size - 2)) = 1 := by
    rw [nonzeros, nonzeros, ← List.countP_append, List.take_append_drop]
    exact (nonzeros_sectionDiff size diff).trans h
  have length_content : ((sectionDiff size diff).take (size - 2)).length = size - 2 := by simp
  have length_check : ((sectionDiff size diff).drop (size - 2)).length = 2 := by simp; omega
  refine decide_eq_false fun good => ?_
  generalize (sectionDiff size diff).take (size - 2) = content at *
  generalize (sectionDiff size diff).drop (size - 2) = check at *
  rcases Nat.add_eq_one_iff.1 total with ⟨none, one⟩ | ⟨one, none⟩
  · rw [good, nonzeros_eq_zero_iff.1 none, crc16From_zeros] at one
    exact absurd one (by decide)
  · rw [nonzeros_eq_zero_iff.1 none, length_check] at good
    exact crc16From_one_ne_zero one (eq_zero_of_checkBytes good.symm)

/-! ### The ends of the phases (R157, R158, R160) -/

section
variable {α : Type} (snapshot misread : α) {size : Nat} {diff : List Byte}

theorem writtenSection_wrong : (writtenSection snapshot misread size diff).wrong = wrongBytes size diff := by
  unfold writtenSection
  split
  case isTrue h => exact h.symm
  case isFalse => rfl

theorem writtenSection_content {n : Nat} (hn : n + 2 = size) (hsize : wrongBytes n diff = 0) :
    (writtenSection snapshot misread size diff).content = snapshot := by
  unfold writtenSection
  split
  case isTrue => rfl
  case isFalse => simp [← hn, hsize]

theorem writtenSection_checkGood (hsize : 2 ≤ size) :
    (writtenSection snapshot misread size diff).checkGood = keepsCheck size diff := by
  unfold writtenSection
  split
  case isTrue h => exact (keepsCheck_of_none hsize h).symm
  case isFalse => rfl

end

/-- R157: the check of a written section as its bytes have it. -/
theorem keepsCheck_judged {size : Nat} (hsize : 2 ≤ size) (diff : List Byte) :
    (wrongBytes size diff = 0 → keepsCheck size diff = true) ∧ (wrongBytes size diff = 1 → keepsCheck size diff = false) ∧
    ∀ content : List Byte, content.length + 2 = size →
      keepsCheck size diff = passesCheck size (List.zipWith (· ^^^ ·) (content ++ checkBytes (crc16 content))
        (sectionDiff size diff)) := by
  refine ⟨keepsCheck_of_none hsize, not_keepsCheck_of_one hsize, ?_⟩
  rintro content rfl
  exact (passesCheck_written content diff).symm

theorem exec_writePhaseEnd {s : State} {x : Snapshot} {left : Nat} (diff : List Byte) (hrun : s.power = .running)
    (hop : s.store.op = some { snapshot := x, phase := .write, left := left }) :
    exec (.writePhaseEnd diff) s =
      .next { s with store := s.store.endWrite diff s.freeCount, freeCount := s.freeCount + 1 } := by
  have writes : s.writeEnds diff =
      { s with store := s.store.endWrite diff s.freeCount, freeCount := s.freeCount + 1 } := by
    rw [State.writeEnds, hop]
  exact congrArg _ ((whenRunning_eq _ hrun).trans writes)

theorem exec_verifyPhaseEnd {s : State} {x : Snapshot} {left : Nat} (hrun : s.power = .running)
    (hop : s.store.op = some { snapshot := x, phase := .verify, left := left }) :
    exec .verifyPhaseEnd s =
      .next ((s.modStore fun t => { t with op := none }).queueReport .stored (.stored x.kind (s.store.mismatch x.kind))) := by
  have verifies : s.endVerify =
      (s.modStore fun t => { t with op := none }).queueReport .stored (.stored x.kind (s.store.mismatch x.kind)) := by
    rw [State.endVerify, hop]
  exact congrArg _ ((whenRunning_eq _ hrun).trans verifies)

theorem exec_markClear {s : State} (hrun : s.power = .running) :
    exec .markClear s = .next (s.modStore Store.beginMarkClear) :=
  congrArg _ (whenRunning_eq _ hrun)

theorem endWrite_store {t : Store} {y : SettingsContent} {left : Nat} (diff : List Byte) (n : Nat)
    (h : t.op = some { snapshot := .store y, phase := .write, left := left }) :
    t.endWrite diff n = { t with
      op := some { snapshot := .store y, phase := .verify, left := 8 }
      image := { t.image with settings := writtenSection y (Config.misreadSettings n) 4096 diff } } := by
  rw [Store.endWrite, h]
  rfl

theorem endWrite_park {t : Store} {x : Snapshot} {y : ParkContent} {left : Nat} (diff : List Byte) (n : Nat)
    (h : t.op = some { snapshot := x, phase := .write, left := left }) (hx : x = .park y ∨ x = .markClear y) :
    t.endWrite diff n = { t with
      op := some { snapshot := x, phase := .verify, left := 1 }
      image := { t.image with park := writtenSection y (Config.misreadPark n) 20 diff } } := by
  rcases hx with rfl | rfl <;>
  · rw [Store.endWrite, h]
    rfl

theorem beginMarkClear_due {t : Store} (hdue : t.clearDue = true) (hop : t.op = none) :
    t.beginMarkClear = { t with
      clearDue := false, markStanding := false
      op := some
        { snapshot := .markClear { positions := t.image.park.content.positions, mark := false }, phase := .write, left := 4 }
      image := { t.image with park := { t.image.park with checkGood := false } } } :=
  if_pos ⟨hdue, hop⟩

theorem beginMarkClear_waits {t : Store} (h : t.clearDue = false ∨ t.op ≠ none) : t.beginMarkClear = t :=
  if_neg fun hbegins => h.elim (by simp [hbegins.1]) fun hop => hop hbegins.2

/-- Settles O31: an ended WRITE leaves `writtenSection` of its snapshot, whose check tells none and one wrong byte apart because the CRC-16
is linear and loses no byte. -/
theorem storeOperationPhases : Obligations.StoreOperationPhases := by
  refine ⟨?write, ?verify, ?clears, ?waits⟩
  case write =>
    intro s x left diff hrun hop wrong judged
    refine ⟨_, exec_writePhaseEnd diff hrun hop, rfl, Store.endWrite_spec _ _ _, ?store, ?park⟩
    case store =>
      rintro y rfl
      dsimp only
      rw [endWrite_store diff _ hop]
      refine ⟨rfl, rfl, writtenSection_wrong _ _, ?_, writtenSection_content _ _ rfl⟩
      rw [writtenSection_checkGood _ _ (by decide)]
      exact keepsCheck_judged (by decide) diff
    case park =>
      intro y hx
      dsimp only
      rw [endWrite_park diff _ hop hx]
      refine ⟨rfl, rfl, writtenSection_wrong _ _, ?_, writtenSection_content _ _ rfl⟩
      rw [writtenSection_checkGood _ _ (by decide)]
      exact keepsCheck_judged (by decide) diff
  case verify =>
    intro s x left hrun hop named
    rw [exec_verifyPhaseEnd hrun hop]
    cases x <;> rfl
  case clears =>
    intro s hrun hdue hop
    rw [exec_markClear hrun, State.modStore, beginMarkClear_due hdue hop]
  case waits =>
    intro s hrun h
    rw [exec_markClear hrun, State.modStore, beginMarkClear_waits h]

/-! ### A loss of power (R157, R159, R161) -/

theorem runAll_cons {i : Instr} {is : List Instr} {s t : State} (h : exec i s = .next t) : runAll (i :: is) s = runAll is t := by
  rw [runAll, h]

theorem map_ofFn {α β : Type} (f : Fin 8 → α) (g : α → β) : (Octet.ofFn f).map g = Octet.ofFn fun c => g (f c) := rfl

theorem settingsNow_coldStarted (s : State) : s.coldStarted.settingsNow = loadedContent s.store.image.settings := by
  simp only [State.settingsNow, State.coldStarted, map_ofFn]
  rfl

theorem runAll_powerCycle (s : State) :
    ∃ t, runAll [.powerOn, .coldStart] s = .next t ∧ t.settingsNow = loadedContent s.store.image.settings :=
  ⟨s.heldAtStart.coldStarted, rfl, settingsNow_coldStarted s.heldAtStart⟩

theorem loadedContent_written (x misread : SettingsContent) (size : Nat) :
    loadedContent (writtenSection x misread size []) = clampContent x := by
  simp [writtenSection, wrongBytes, loadedContent]

/-! ### The items as their values (R154) -/

/-- Every item put back at its value gives the settings: no field of a channel's settings is without an item. -/
theorem foldl_putChItem (b k : ChannelSettings) :
    chItems.foldl (fun x i => putChItem x i (chItemValue k i)) b = k := by
  simp only [chItems, List.cons_append, List.nil_append, List.foldl_cons, List.foldl_nil, putChItem, chItemValue,
    kindOfCode_code, aggModeOfCode_code, Option.getD_some, Int.toNat_natCast]

theorem eq_of_chItemValue {k l : ChannelSettings} (h : ∀ i, chItemValue k i = chItemValue l i) : k = l := by
  rw [← foldl_putChItem k k, ← foldl_putChItem k l, funext h]

theorem foldl_putGlItem (b g : GlobalSettings) :
    glItems.foldl (fun x i => putGlItem x i (glItemValue g i)) b = g := by
  have lock : decide ((if g.lockAtStart then 1 else 0 : Int) ≠ 0) = g.lockAtStart := by cases g.lockAtStart <;> rfl
  simp only [glItems, List.foldl_cons, List.foldl_nil, putGlItem, glItemValue, weightOf_code, Int.toNat_natCast,
    BitVec.ofInt_natCast, BitVec.ofNat_toNat, BitVec.setWidth_eq]
  exact congrArg (fun b => { g with lockAtStart := b }) lock

theorem eq_of_glItemValue {g l : GlobalSettings} (h : ∀ i, glItemValue g i = glItemValue l i) : g = l := by
  rw [← foldl_putGlItem g g, ← foldl_putGlItem g l, funext h]

/-! ### What a load clamps (R57, R62, R114, R115, R119, R155, R161) -/

/-- The nearest value of a range. -/
def nearest (r : Int × Int) (v : Int) : Int := max r.1 (min r.2 v)

/-- A value in a range, its bounds included. -/
abbrev within (r : Int × Int) (v : Int) : Prop := r.1 ≤ v ∧ v ≤ r.2

theorem within_nearest {r : Int × Int} (h : r.1 ≤ r.2) (v : Int) : within r (nearest r v) := by
  unfold nearest
  omega

theorem nearest_of_within {r : Int × Int} {v : Int} (h : within r v) : nearest r v = v := by
  unfold nearest
  omega

theorem within_code_weight (x : Weight) : within (0, 16) (Weight.code x) := by cases x <;> decide

theorem within_toNat (x : BitVec 6) : within (0, 63) x.toNat := by
  simp only [within]
  omega

theorem within_flag (b : Bool) : within (0, 1) (if b then 1 else 0) := by cases b <;> decide

theorem within_code_kind (x : Kind) : within (0, 3) (Kind.code x) := by cases x <;> decide

theorem within_code_mode (x : AggMode) : within (0, 2) (AggMode.code x) := by cases x <;> decide

theorem glItemValue_clampGlobals (g : GlobalSettings) (i : GlItem) :
    glItemValue (clampGlobals g) i = nearest (glItemRange (clampGlobals g) i) (glItemValue g i) := by
  cases i
  case wrr => exact (nearest_of_within (within_code_weight g.wrr)).symm
  case urgentKinds => exact (nearest_of_within (within_toNat g.urgentKinds)).symm
  case lockAtStart => exact (nearest_of_within (within_flag g.lockAtStart)).symm
  all_goals
    simp only [glItemValue, glItemRange, clampGlobals, clampNat, nearest]
    omega

theorem glItemRange_clampGlobals_le (g : GlobalSettings) (i : GlItem) :
    (glItemRange (clampGlobals g) i).1 ≤ (glItemRange (clampGlobals g) i).2 := by
  cases i
  case uCut =>
    simp only [glItemRange, clampGlobals, clampNat]
    omega
  all_goals simp [glItemRange]

theorem clampGlobals_of_within {g : GlobalSettings} (h : ∀ i, within (glItemRange g i) (glItemValue g i)) :
    clampGlobals g = g := by
  have kept : ∀ i, glItemRange (clampGlobals g) i = glItemRange g i → glItemValue (clampGlobals g) i = glItemValue g i := by
    intro i hrange
    rw [glItemValue_clampGlobals, hrange, nearest_of_within (h i)]
  have uSag_eq : (clampGlobals g).uSag = g.uSag := Int.ofNat.inj (kept .uSag rfl)
  refine eq_of_glItemValue fun i => kept i ?_
  cases i
  case uCut => simp only [glItemRange, uSag_eq]
  all_goals rfl

theorem chItemValue_clampChannel (g : GlobalSettings) (k : ChannelSettings) {i : ChItem} (h : i ≠ .bCeil) :
    chItemValue (clampChannel g k) i = nearest (chItemRange g (clampChannel g k) i) (chItemValue k i) := by
  cases i
  case bCeil => exact absurd rfl h
  case kind => exact (nearest_of_within (within_code_kind k.kind)).symm
  case mode => exact (nearest_of_within (within_code_mode k.mode)).symm
  all_goals
    simp only [chItemValue, chItemRange, clampChannel, clampNat, nearest]
    omega

theorem chItemRange_clampChannel_le (g : GlobalSettings) (k : ChannelSettings) (i : ChItem) :
    (chItemRange g (clampChannel g k) i).1 ≤ (chItemRange g (clampChannel g k) i).2 := by
  cases i
  case sealBand | bFloor | bCeil | k | iStart | iRun | sInit =>
    simp only [chItemRange, clampChannel, clampNat]
    omega
  all_goals simp [chItemRange]

theorem within_clampChannel (g : GlobalSettings) (k : ChannelSettings) (i : ChItem) :
    within (chItemRange g (clampChannel g k) i) (chItemValue (clampChannel g k) i) := by
  by_cases h : i = .bCeil
  · subst h
    simp only [within, chItemRange, chItemValue, clampChannel]
    omega
  · rw [chItemValue_clampChannel g k h]
    exact within_nearest (chItemRange_clampChannel_le g k i) _

/-- Only B_CEIL, whose range begins at B_FLOOR, is not fixed by the items that a load clamps first. -/
theorem chItemRange_congr (g : GlobalSettings) {k l : ChannelSettings} {i : ChItem} (h : i ≠ .bCeil)
    (htravel : k.travel = l.travel) (hceil : k.bCeil = l.bCeil) (hlen : k.winLen = l.winLen) (hstart : k.iStart = l.iStart)
    (hmax : k.sMax = l.sMax) : chItemRange g k i = chItemRange g l i := by
  cases i
  case bCeil => exact absurd rfl h
  case sealBand => simp only [chItemRange, htravel]
  case bFloor => simp only [chItemRange, hceil]
  case k => simp only [chItemRange, hlen]
  case iRun => simp only [chItemRange, hstart]
  case sInit => simp only [chItemRange, hmax]
  all_goals rfl

theorem clampChannel_of_within {g : GlobalSettings} {k : ChannelSettings}
    (h : ∀ i, within (chItemRange g k i) (chItemValue k i)) : clampChannel g k = k := by
  have kept : ∀ i, i ≠ .bCeil → chItemRange g (clampChannel g k) i = chItemRange g k i →
      chItemValue (clampChannel g k) i = chItemValue k i := by
    intro i hi hrange
    rw [chItemValue_clampChannel g k hi, hrange, nearest_of_within (h i)]
  have ceil_eq : (clampChannel g k).bCeil = k.bCeil := Nat.min_eq_right (Int.ofNat_le.1 (h .bCeil).2)
  refine eq_of_chItemValue fun i => ?_
  by_cases hi : i = .bCeil
  · subst hi
    exact congrArg _ ceil_eq
  · exact kept i hi (chItemRange_congr g hi (Int.ofNat.inj (kept .travel (by decide) rfl)) ceil_eq
      (Int.ofNat.inj (kept .winLen (by decide) rfl)) (Int.ofNat.inj (kept .iStart (by decide) rfl))
      (Int.ofNat.inj (kept .sMax (by decide) rfl)))

theorem clampZone_eq (k : ChannelSettings) (z : ZoneRecord) :
    clampZone k z =
      if z.state = .empty then emptyZone
      else { z with baseline := max k.bFloor (min k.bCeil z.baseline), spread := min k.sMax z.spread } := by
  unfold clampZone
  cases z.state <;> rfl

/-- A zone is as a load leaves it: EMPTY with its figures, or with baseline and spread within the settings. -/
def zoneWithin (k : ChannelSettings) (z : ZoneRecord) : Prop :=
  if z.state = .empty then z = emptyZone else k.bFloor ≤ z.baseline ∧ z.baseline ≤ k.bCeil ∧ z.spread ≤ k.sMax

theorem clampZone_of_within {k : ChannelSettings} {z : ZoneRecord} (h : zoneWithin k z) : clampZone k z = z := by
  rw [clampZone_eq]
  unfold zoneWithin at h
  split at h
  case isTrue hempty => rw [if_pos hempty, ← h]
  case isFalse hempty =>
    obtain ⟨hfloor, hceil, hspread⟩ := h
    rw [if_neg hempty, Nat.min_eq_right hceil, Nat.max_eq_right hfloor, Nat.min_eq_right hspread]

/-- Every item of a content lies in its range, as the content's other items make it. -/
def itemsWithin (x : SettingsContent) : Prop :=
  (∀ i, within (glItemRange x.globals i) (glItemValue x.globals i)) ∧
  ∀ c i, within (chItemRange x.globals (x.channels.get c) i) (chItemValue (x.channels.get c) i)

theorem get_channels_clampContent (x : SettingsContent) (c : Channel) :
    (clampContent x).channels.get c = clampChannel (clampGlobals x.globals) (x.channels.get c) :=
  Octet.get_map _ _ c

theorem getElem_zones_clampContent (x : SettingsContent) (c : Channel) (z : Fin 64) :
    ((clampContent x).zones.get c)[z] = clampZone ((clampContent x).channels.get c) (x.zones.get c)[z] := by
  simp only [clampContent, Octet.get_ofFn]
  exact getElem_mapZones _ _ z

theorem itemsWithin_clampContent (x : SettingsContent) : itemsWithin (clampContent x) := by
  refine ⟨fun i => ?_, fun c i => ?_⟩
  · change within (glItemRange (clampGlobals x.globals) i) (glItemValue (clampGlobals x.globals) i)
    rw [glItemValue_clampGlobals]
    exact within_nearest (glItemRange_clampGlobals_le x.globals i) _
  · rw [get_channels_clampContent]
    exact within_clampChannel _ _ i

theorem clampContent_of_within {x : SettingsContent} (hitems : itemsWithin x)
    (hzones : ∀ c (z : Fin 64), zoneWithin (x.channels.get c) (x.zones.get c)[z]) : clampContent x = x := by
  obtain ⟨hglobals, hchannels⟩ := hitems
  have globals_eq : (clampContent x).globals = x.globals := clampGlobals_of_within hglobals
  have channels_eq : (clampContent x).channels = x.channels := Octet.ext_get fun c => by
    rw [get_channels_clampContent, clampGlobals_of_within hglobals, clampChannel_of_within (hchannels c)]
  have zones_eq : (clampContent x).zones = x.zones := Octet.ext_get fun c => Vector.ext fun i hi => by
    have clamped := getElem_zones_clampContent x c ⟨i, hi⟩
    rwa [channels_eq, clampZone_of_within (hzones c ⟨i, hi⟩)] at clamped
  calc clampContent x
      = { x with
          globals := (clampContent x).globals
          channels := (clampContent x).channels
          zones := (clampContent x).zones } := rfl
    _ = x := by rw [globals_eq, channels_eq, zones_eq]

/-! ### The fixed defaults (R103, R133, R155) -/

theorem chItemValues_default (c : Channel) :
    chItems.map (chItemValue (defaultChannelSettings c)) =
      [(Kind.code (defaultKind c) : Int), (kindTravel (defaultKind c) : Int), 60, 200, 20, 40, 2, 220, 100, 600, 60, 180, 40,
        20, 30, 24, 8, 0, 3, 24, 30, 200, 600, 800, 40, 3, 30, 150, ((kindCharges (defaultKind c)).1 : Int),
        ((kindCharges (defaultKind c)).2 : Int), 90000, 15000, 4, 140, 255, 160, 120, 8, 2, 12, 8, 60, 40, 15] := rfl

theorem defaultKind_window {c : Channel} (h : c.val ≤ 3) : defaultKind c = .window := by revert c; decide

theorem defaultKind_vent {c : Channel} (h : c.val = 4 ∨ c.val = 5) : defaultKind c = .vent := by revert c; decide

theorem defaultKind_roofPanel {c : Channel} (h : c.val = 6) : defaultKind c = .roofPanel := by revert c; decide

theorem defaultKind_roofShade {c : Channel} (h : c.val = 7) : defaultKind c = .roofShade := by revert c; decide

/-- Settles O32: a power cycle loads the image, whose section is the snapshot after an ended WRITE and fails its check before; a load takes
each item to the nearest value of its range (`glItemValue_clampGlobals`, `chItemValue_clampChannel`), which is no change within it. -/
theorem storedSettingsSurvive : Obligations.StoredSettingsSurvive := by
  refine ⟨?survives, ?clamps, rfl, ?defaults⟩
  case survives =>
    intro s tag src hrun hsrc hop
    have stored := (exec_store_privileged (tag := tag) hrun hsrc).trans (congrArg _ (carryStore_accepted (s := s.counted) hop))
    refine ⟨?written, ?cutOff⟩
    case written =>
      rw [runAll_cons stored, runAll_cons (exec_writePhaseEnd (s := (storing s.counted).answer tag .store .done []) [] hrun rfl)]
      obtain ⟨t, hcycle, hloaded⟩ := runAll_powerCycle _
      exact ⟨t, hcycle, hloaded.trans (loadedContent_written s.settingsNow _ _)⟩
    case cutOff =>
      rw [runAll_cons stored]
      exact runAll_powerCycle _
  case clamps =>
    intro x y emptyFigures nearestTo itemsInRange
    refine ⟨itemsWithin_clampContent x, glItemValue_clampGlobals x.globals, fun c => ?channel, rfl, rfl, rfl,
      clampContent_of_within⟩
    intro k
    have k_eq : k = clampChannel y.globals (x.channels.get c) := get_channels_clampContent x c
    refine ⟨fun i hi => ?_, ?_, fun z => ?_⟩
    · rw [k_eq]
      exact chItemValue_clampChannel _ _ hi
    · rw [k_eq]
      rfl
    · exact (getElem_zones_clampContent x c z).trans (clampZone_eq _ _)
  case defaults =>
    intro c byKind
    have settings_eq : defaultContent.channels.get c = defaultChannelSettings c := Octet.get_ofFn _ c
    have values_eq := settings_eq ▸ chItemValues_default c
    refine ⟨fun h => ?_, fun h => ?_, fun h => ?_, fun h => ?_, fun z => ?zone, ?counter, ?entries, fun x => ?privileged⟩
    · rw [defaultKind_window h] at values_eq
      exact values_eq
    · rw [defaultKind_vent h] at values_eq
      exact values_eq
    · rw [defaultKind_roofPanel h] at values_eq
      exact values_eq
    · rw [defaultKind_roofShade h] at values_eq
      exact values_eq
    case zone =>
      have zones_eq : defaultContent.zones.get c = emptyZones := Octet.get_ofFn _ c
      rw [zones_eq]
      exact getElem_emptyZones z
    case counter => exact Octet.get_ofFn _ c
    case entries =>
      clear values_eq settings_eq byKind
      revert c
      decide
    case privileged => cases x <;> decide

end Sys2Proof.Machine.ImageRules
end
